-- ==== Sys2Proof/Word.lean ====
section
/-! DEFINITION. The words of the interface: bytes, byte strings of fixed length, and the exact
rationals of the timing generators (spec/00_scope.md R8 to R11). -/

namespace Sys2Proof

/-- One unsigned 8-bit value of a byte string (R9). -/
abbrev Byte := BitVec 8

/-- `Bytes n` of R9: a string of exactly `n` bytes, `b[0]` to `b[n-1]`. -/
abbrev Bytes (n : Nat) := Vector Byte n

end Sys2Proof
end

