-- ==== Sys2Proof/Syntax.lean ====
section
/-! DEFINITION. The types of every value that crosses the transaction interface (spec/10_state.md R21, R27 to
R39; spec/60_exceptions.md R310) and the instruction set: one constructor of `Instr` per row of
spec/opcode_table.json (spec/30_encoding.md R80, R81). -/

namespace Sys2Proof

/-! ## Records of the codecs -/

/-- R29. `hActive8` is the active width in units of 8 pixels, `refresh` is in Hz, `aspect` is carried raw. -/
structure StdTiming where
  hActive8 : Nat
  aspect : BitVec 2
  refresh : Nat
  deriving DecidableEq, Repr

/-- R30. `vActive` is in lines; every other field is carried raw. -/
structure CvtCode where
  vActive : Nat
  aspect : BitVec 2
  rsvA : BitVec 2
  prefRate : BitVec 2
  rates : BitVec 5
  rsvB : BitVec 1
  deriving DecidableEq, Repr

/-- R32. The two `Option` fields of `digital` are the document's "null otherwise" fields. -/
inductive Sync where
  | analog (bipolar serrations syncOnGreen : Bool)
  | digital (composite : Bool) (serrations vSyncPositive : Option Bool) (hSyncPositive : Bool)
  deriving DecidableEq, Repr

/-- R31. `pixelClock` is in units of 0.01 MHz. -/
structure Dtd where
  pixelClock : BitVec 16
  hActive : BitVec 12
  hBlank : BitVec 12
  vActive : BitVec 12
  vBlank : BitVec 12
  hFrontPorch : BitVec 10
  hSyncWidth : BitVec 10
  vFrontPorch : BitVec 6
  vSyncWidth : BitVec 6
  hSizeMm : BitVec 12
  vSizeMm : BitVec 12
  hBorder : BitVec 8
  vBorder : BitVec 8
  interlaced : Bool
  stereo : BitVec 3
  sync : Sync
  deriving DecidableEq, Repr

/-- R35, `SecondaryGtf`. -/
structure SecondaryGtf where
  rsv : BitVec 8
  hBreak2 : BitVec 8
  c2 : BitVec 8
  m : BitVec 16
  k : BitVec 8
  j2 : BitVec 8
  deriving DecidableEq, Repr

/-- R35, `CvtSupport`. -/
structure CvtSupport where
  version : BitVec 8
  pclkOffset : BitVec 6
  maxActive8 : BitVec 10
  aspects : BitVec 5
  aspectsRsv : BitVec 3
  prefAspect : BitVec 3
  rbSupported : Bool
  stdSupported : Bool
  blankRsv : BitVec 3
  scaling : BitVec 4
  scalingRsv : BitVec 4
  prefVRate : BitVec 8
  deriving DecidableEq, Repr

/-- R35. `plain` is any selector but 0x02 and 0x04, with bytes 11 to 17 of the slot. -/
inductive DrlTiming where
  | plain (selector : BitVec 8) (raw : Bytes 7)
  | secondaryGtf (g : SecondaryGtf)
  | cvtSupport (c : CvtSupport)
  deriving DecidableEq, Repr

/-- R34. Every field is carried raw. -/
structure Drl where
  vMin : BitVec 8
  vMax : BitVec 8
  hMin : BitVec 8
  hMax : BitVec 8
  vMinPlus255 : Bool
  vMaxPlus255 : Bool
  hMinPlus255 : Bool
  hMaxPlus255 : Bool
  flagsRsv : BitVec 4
  maxPclk10 : BitVec 8
  timing : DrlTiming
  deriving DecidableEq, Repr

/-- R37. Slot bytes 6 to 11 and 12 to 17. -/
structure Et3 where
  bitmap : Bytes 6
  rsv : Bytes 6
  deriving DecidableEq, Repr

/-- R33, the closed tagged variant of one 18-byte slot. `opaqueSlot` is the spec's `Opaque`. -/
inductive Descriptor where
  | detailedTiming (d : Dtd)
  | dummy
  | serialNumber (s : List Byte)
  | alphanumericString (s : List Byte)
  | displayRangeLimits (r : Drl)
  | productName (s : List Byte)
  | establishedTimingsIII (e : Et3)
  | opaqueSlot (b : Bytes 18)
  deriving DecidableEq, Repr

/-! ## Records of the generators -/

/-- R38. `rb` is the reduced-blanking selector: 0 off, 1 v1, 2 v2, 3 v2-video, others a usage error. -/
structure CvtGenArgs where
  hActive : Nat
  vActive : Nat
  refresh : ℚ
  rb : BitVec 8
  interlaced : Bool
  margins : Bool
  deriving DecidableEq, Repr

/-- R38. A constant that a request leaves out takes the document's default (R84). -/
structure GtfGenArgs where
  hActive : Nat
  vActive : Nat
  refresh : ℚ
  interlaced : Bool
  margins : Bool
  m : ℚ := 600
  c : ℚ := 40
  k : ℚ := 128
  j : ℚ := 20
  deriving DecidableEq, Repr

/-- R39. Pixels, lines, MHz (`pixelClock`), kHz (`hRate`) and Hz (`vFieldRate`, `vRate`). -/
structure TimingParams where
  hActive : ℚ
  hBorder : ℚ
  hFrontPorch : ℚ
  hSync : ℚ
  hBackPorch : ℚ
  hBlank : ℚ
  hTotal : ℚ
  vActive : ℚ
  vBorder : ℚ
  vFrontPorch : ℚ
  vSync : ℚ
  vBackPorch : ℚ
  vBlank : ℚ
  vTotal : ℚ
  pixelClock : ℚ
  hRate : ℚ
  vFieldRate : ℚ
  vRate : ℚ
  interlaced : Bool
  hSyncPositive : Bool
  vSyncPositive : Bool
  deriving DecidableEq, Repr

/-- The rational fields of R39, by name. -/
inductive TimingField where
  | hActive
  | hBorder
  | hFrontPorch
  | hSync
  | hBackPorch
  | hBlank
  | hTotal
  | vActive
  | vBorder
  | vFrontPorch
  | vSync
  | vBackPorch
  | vBlank
  | vTotal
  | pixelClock
  | hRate
  | vFieldRate
  | vRate
  deriving DecidableEq, Repr

/-! ## The transaction interface -/

/-- R27. -/
inductive Operand where
  | bytes (b : List Byte)
  | stdIn (t : Option StdTiming)
  | cvt3In (c : CvtCode)
  | dtdIn (d : Dtd)
  | descIn (d : Descriptor)
  | cvtGenIn (g : CvtGenArgs)
  | gtfGenIn (g : GtfGenArgs)
  deriving DecidableEq, Repr

/-- The operand kinds of R27, without their contents. -/
inductive OperandKind where
  | bytes
  | stdIn
  | cvt3In
  | dtdIn
  | descIn
  | cvtGenIn
  | gtfGenIn
  deriving DecidableEq, Repr

/-- R28. -/
inductive Result where
  | byte (v : BitVec 8)
  | bool (v : Bool)
  | bytes (b : List Byte)
  | std (t : Option StdTiming)
  | cvt3 (c : CvtCode)
  | dtd (d : Dtd)
  | desc (d : Descriptor)
  | timing (p : TimingParams)
  deriving DecidableEq, Repr

/-- R310, in the order of the codes 0 to 8. -/
inductive Status where
  | ok
  | notThisType
  | doesNotApply
  | failMalformed
  | failRange
  | failLength
  | usageError
  | domainError
  | illegalOp
  deriving DecidableEq, Repr

/-- R21. -/
structure Request where
  op : BitVec 8
  operand : Operand
  deriving DecidableEq, Repr

/-- R21. -/
structure Response where
  status : Status
  result : Option Result
  deriving DecidableEq, Repr

/-! ## The instruction set -/

/-- One constructor per row of spec/opcode_table.json (R81), with the operand of the request. The operand may
be of any kind: R83 gives a wrong one its status, so it is the operation that looks at it. -/
inductive Instr where
  | chkCompute (o : Operand)
  | chkValidate (o : Operand)
  | chkSeal (o : Operand)
  | stdDec (o : Operand)
  | stdEnc (o : Operand)
  | cvt3Dec (o : Operand)
  | cvt3Enc (o : Operand)
  | dtdDec (o : Operand)
  | dtdEnc (o : Operand)
  | slotDec (o : Operand)
  | slotEnc (o : Operand)
  | regDecDummy (o : Operand)
  | regEncDummy (o : Operand)
  | regDecSerial (o : Operand)
  | regEncSerial (o : Operand)
  | regDecAlnum (o : Operand)
  | regEncAlnum (o : Operand)
  | regDecRange (o : Operand)
  | regEncRange (o : Operand)
  | regDecName (o : Operand)
  | regEncName (o : Operand)
  | regDecEt3 (o : Operand)
  | regEncEt3 (o : Operand)
  | cvtGen (o : Operand)
  | gtfGen (o : Operand)
  deriving DecidableEq, Repr

end Sys2Proof
end

