-- ==== Sys2Proof/Config.lean ====
section
/-! DEFINITION. The implementation parameters of spec/00_scope.md R6 as a record, and the free values
(constants with no body) that an alternative setting of a parameter can need. The values THIS hardware
takes stand in Sys2Proof/Machine/Parameters.lean. Parameters are configuration, not state (R25, R341). -/

namespace Sys2Proof

/-- `STD_REFRESH_BITS` (R6, D6): the document's 5, or the VESA width 6. -/
inductive RefreshBits where
  | five
  | six
  deriving DecidableEq, Repr

/-- `W` of R150. -/
def RefreshBits.width : RefreshBits → Nat
  | .five => 5
  | .six => 6

/-- `ASPECT_MATCH` (R6, R245, D24): how CVT compares the rounded width with an aspect ratio. -/
inductive AspectMatch where
  | exact
  | cell
  deriving DecidableEq, Repr

/-- `GEN_ARITH` (R6, D21): exact rational arithmetic, or IEEE 754 double arithmetic. -/
inductive GenArith where
  | exact
  | binary64
  deriving DecidableEq, Repr

/-- The parameters a model takes as the argument of its configuration (R6). `none` in a bound is
"unbounded". -/
structure Config where
  stdRefreshBits : RefreshBits
  aspectMatch : AspectMatch
  genArith : GenArith
  chkMaxLen : Option Nat
  genDimMax : Option Nat
  deriving DecidableEq, Repr

/-- R6: a fixed `CHK_MAX_LEN` is at least 128. -/
def Config.wellFormed (c : Config) : Bool :=
  match c.chkMaxLen with
  | none => true
  | some n => decide (128 ≤ n)

/-- The values of IEEE 754 that are no rational. -/
inductive NonFinite where
  | posInfinity
  | negInfinity
  | notANumber
  deriving DecidableEq, Repr

/-- FREE VALUE (log entry 7; only under `GEN_ARITH = binary64`, which this hardware does not take). R39 types every
output as a rational and names none for an infinity or a NaN: this is the rational that the response to the request with
this operand carries in this field, whose double is the one given. -/
opaque Config.nonFinite : Operand → TimingField → NonFinite → ℚ

/-- FREE VALUE (log entry 6; only under a bounded `GEN_DIM_MAX`, which this hardware does not take). R6 lets a
model bound the generators' dimensions and states no status for a request above the bound; this picks one
of the eight statuses other than `OK`, by the two dimensions. -/
opaque Config.overDimension : Nat → Nat → Fin 8

end Sys2Proof
end

