-- ==== Sys2Proof/WellFormed.lean ====
section
/-! DEFINITION. When a request is well formed: the operand kind each op code takes (spec/30_encoding.md R81, R83), the
length of a byte string (spec/20_memory.md R65), and the records an encoder accepts (spec/10_state.md R32,
spec/41_field_codecs.md R151 and R155, spec/42_dtd.md R172, spec/43_descriptors.md R192 and R204). An ill-formed request is still a
request: the unit answers it with a status. -/

namespace Sys2Proof

def Operand.kind : Operand → OperandKind
  | .bytes _ => .bytes
  | .stdIn _ => .stdIn
  | .cvt3In _ => .cvt3In
  | .dtdIn _ => .dtdIn
  | .descIn _ => .descIn
  | .cvtGenIn _ => .cvtGenIn
  | .gtfGenIn _ => .gtfGenIn

def Instr.operand : Instr → Operand
  | .chkCompute o => o
  | .chkValidate o => o
  | .chkSeal o => o
  | .stdDec o => o
  | .stdEnc o => o
  | .cvt3Dec o => o
  | .cvt3Enc o => o
  | .dtdDec o => o
  | .dtdEnc o => o
  | .slotDec o => o
  | .slotEnc o => o
  | .regDecDummy o => o
  | .regEncDummy o => o
  | .regDecSerial o => o
  | .regEncSerial o => o
  | .regDecAlnum o => o
  | .regEncAlnum o => o
  | .regDecRange o => o
  | .regEncRange o => o
  | .regDecName o => o
  | .regEncName o => o
  | .regDecEt3 o => o
  | .regEncEt3 o => o
  | .cvtGen o => o
  | .gtfGen o => o

/-- The column "operand kind" of R81. -/
def Instr.operandKind : Instr → OperandKind
  | .chkCompute _ => .bytes
  | .chkValidate _ => .bytes
  | .chkSeal _ => .bytes
  | .stdDec _ => .bytes
  | .stdEnc _ => .stdIn
  | .cvt3Dec _ => .bytes
  | .cvt3Enc _ => .cvt3In
  | .dtdDec _ => .bytes
  | .dtdEnc _ => .dtdIn
  | .slotDec _ => .bytes
  | .slotEnc _ => .descIn
  | .regDecDummy _ => .bytes
  | .regEncDummy _ => .descIn
  | .regDecSerial _ => .bytes
  | .regEncSerial _ => .descIn
  | .regDecAlnum _ => .bytes
  | .regEncAlnum _ => .descIn
  | .regDecRange _ => .bytes
  | .regEncRange _ => .descIn
  | .regDecName _ => .bytes
  | .regEncName _ => .descIn
  | .regDecEt3 _ => .bytes
  | .regEncEt3 _ => .descIn
  | .cvtGen _ => .cvtGenIn
  | .gtfGen _ => .gtfGenIn

/-- The length R65 fixes for a byte-string operand; `none` where any length will do. -/
def Instr.operandLength : Instr → Option Nat
  | .chkCompute _ => none
  | .chkValidate _ => some 128
  | .chkSeal _ => some 128
  | .stdDec _ => some 2
  | .cvt3Dec _ => some 3
  | .dtdDec _ => some 18
  | .slotDec _ => some 18
  | .regDecDummy _ => some 18
  | .regDecSerial _ => some 18
  | .regDecAlnum _ => some 18
  | .regDecRange _ => some 18
  | .regDecName _ => some 18
  | .regDecEt3 _ => some 18
  | .stdEnc _ => none
  | .cvt3Enc _ => none
  | .dtdEnc _ => none
  | .slotEnc _ => none
  | .regEncDummy _ => none
  | .regEncSerial _ => none
  | .regEncAlnum _ => none
  | .regEncRange _ => none
  | .regEncName _ => none
  | .regEncEt3 _ => none
  | .cvtGen _ => none
  | .gtfGen _ => none

/-- The byte string of a `bytes` operand has length `n`; true of the other kinds, which have no length. -/
def Operand.hasLength (n : Nat) : Operand → Bool
  | .bytes b => b.length == n
  | _ => true

/-- R83: the operand is of the right kind, and a byte string has the right length. -/
def Instr.wellFormed (i : Instr) : Bool :=
  i.operand.kind == i.operandKind &&
    match i.operandLength with
    | none => true
    | some n => i.operand.hasLength n

/-! ## Records an encoder accepts -/

/-- R151: the encodable Standard Timings, for the refresh width `w`. -/
def StdTiming.encodable (w : Nat) (t : StdTiming) : Bool :=
  decide (31 ≤ t.hActive8) && decide (t.hActive8 ≤ 286) && decide (60 ≤ t.refresh) &&
    decide (t.refresh ≤ 60 + (2 ^ w - 1)) && !(t == { hActive8 := 32, aspect := 0, refresh := 61 })

/-- R155: the encodable CVT codes. -/
def CvtCode.encodable (c : CvtCode) : Bool :=
  c.vActive % 2 == 0 && decide (2 ≤ c.vActive) && decide (c.vActive ≤ 8192)

/-- R32: the nullability of a digital sync. -/
def Sync.wellFormed : Sync → Bool
  | .analog _ _ _ => true
  | .digital true (some _) none _ => true
  | .digital false none (some _) _ => true
  | .digital _ _ _ _ => false

/-- R172: what DTD_ENC accepts. -/
def Dtd.encodable (d : Dtd) : Bool :=
  d.pixelClock != 0 && d.sync.wellFormed

/-- R192: the strings `str_enc` accepts. -/
def stringEncodable (s : List Byte) : Bool :=
  decide (s.length ≤ 13) && !(s.contains 0x0A)

/-- R204: a `Plain` selector is neither 0x02 nor 0x04. -/
def DrlTiming.encodable : DrlTiming → Bool
  | .plain selector _ => selector != 0x02 && selector != 0x04
  | .secondaryGtf _ => true
  | .cvtSupport _ => true

/-- R212: what SLOT_ENC accepts. -/
def Descriptor.encodable : Descriptor → Bool
  | .detailedTiming d => d.encodable
  | .dummy => true
  | .serialNumber s => stringEncodable s
  | .alphanumericString s => stringEncodable s
  | .displayRangeLimits r => r.timing.encodable
  | .productName s => stringEncodable s
  | .establishedTimingsIII _ => true
  | .opaqueSlot _ => true

end Sys2Proof
end

