-- ==== Sys2Proof/Decode.lean ====
section
/-! DEFINITION. The op-code map of spec/30_encoding.md R81, both ways: `decode` reads a request as an instruction or rejects
it by the name of its status (R82), `encode` is the request of an instruction. The operand crosses as a typed
value: R80 leaves its wire format out of the spec. -/

namespace Sys2Proof

/-- R81 and R82. `op` is matched against all 8 bits; every op code outside the map is `ILLEGAL_OP`. -/
def decode (r : Request) : Except Status Instr :=
  match r.op.toNat with
  | 0x01 => .ok (.chkCompute r.operand)
  | 0x02 => .ok (.chkValidate r.operand)
  | 0x03 => .ok (.chkSeal r.operand)
  | 0x10 => .ok (.stdDec r.operand)
  | 0x11 => .ok (.stdEnc r.operand)
  | 0x12 => .ok (.cvt3Dec r.operand)
  | 0x13 => .ok (.cvt3Enc r.operand)
  | 0x20 => .ok (.dtdDec r.operand)
  | 0x21 => .ok (.dtdEnc r.operand)
  | 0x30 => .ok (.slotDec r.operand)
  | 0x31 => .ok (.slotEnc r.operand)
  | 0x40 => .ok (.regDecDummy r.operand)
  | 0x41 => .ok (.regEncDummy r.operand)
  | 0x42 => .ok (.regDecSerial r.operand)
  | 0x43 => .ok (.regEncSerial r.operand)
  | 0x44 => .ok (.regDecAlnum r.operand)
  | 0x45 => .ok (.regEncAlnum r.operand)
  | 0x46 => .ok (.regDecRange r.operand)
  | 0x47 => .ok (.regEncRange r.operand)
  | 0x48 => .ok (.regDecName r.operand)
  | 0x49 => .ok (.regEncName r.operand)
  | 0x4A => .ok (.regDecEt3 r.operand)
  | 0x4B => .ok (.regEncEt3 r.operand)
  | 0x50 => .ok (.cvtGen r.operand)
  | 0x60 => .ok (.gtfGen r.operand)
  | _ => .error .illegalOp

/-- The op code of an instruction, R81. -/
def Instr.opcode : Instr → BitVec 8
  | .chkCompute _ => 0x01
  | .chkValidate _ => 0x02
  | .chkSeal _ => 0x03
  | .stdDec _ => 0x10
  | .stdEnc _ => 0x11
  | .cvt3Dec _ => 0x12
  | .cvt3Enc _ => 0x13
  | .dtdDec _ => 0x20
  | .dtdEnc _ => 0x21
  | .slotDec _ => 0x30
  | .slotEnc _ => 0x31
  | .regDecDummy _ => 0x40
  | .regEncDummy _ => 0x41
  | .regDecSerial _ => 0x42
  | .regEncSerial _ => 0x43
  | .regDecAlnum _ => 0x44
  | .regEncAlnum _ => 0x45
  | .regDecRange _ => 0x46
  | .regEncRange _ => 0x47
  | .regDecName _ => 0x48
  | .regEncName _ => 0x49
  | .regDecEt3 _ => 0x4A
  | .regEncEt3 _ => 0x4B
  | .cvtGen _ => 0x50
  | .gtfGen _ => 0x60

/-- The request of an instruction. -/
def encode (i : Instr) : Request :=
  { op := i.opcode, operand := i.operand }

/-- R81, R84, R85: the mnemonics and their op codes, in the order of the opcode table. -/
def opcodeMap : List (String × BitVec 8) :=
  [("CHK_COMPUTE", 0x01), ("CHK_VALIDATE", 0x02), ("CHK_SEAL", 0x03),
   ("STD_DEC", 0x10), ("STD_ENC", 0x11), ("CVT3_DEC", 0x12), ("CVT3_ENC", 0x13),
   ("DTD_DEC", 0x20), ("DTD_ENC", 0x21), ("SLOT_DEC", 0x30), ("SLOT_ENC", 0x31),
   ("REG_DEC_DUMMY", 0x40), ("REG_ENC_DUMMY", 0x41), ("REG_DEC_SERIAL", 0x42), ("REG_ENC_SERIAL", 0x43),
   ("REG_DEC_ALNUM", 0x44), ("REG_ENC_ALNUM", 0x45), ("REG_DEC_RANGE", 0x46), ("REG_ENC_RANGE", 0x47),
   ("REG_DEC_NAME", 0x48), ("REG_ENC_NAME", 0x49), ("REG_DEC_ET3", 0x4A), ("REG_ENC_ET3", 0x4B),
   ("CVT_GEN", 0x50), ("GTF_GEN", 0x60)]

/-- The mnemonic of an instruction, R81. -/
def Instr.mnemonic : Instr → String
  | .chkCompute _ => "CHK_COMPUTE"
  | .chkValidate _ => "CHK_VALIDATE"
  | .chkSeal _ => "CHK_SEAL"
  | .stdDec _ => "STD_DEC"
  | .stdEnc _ => "STD_ENC"
  | .cvt3Dec _ => "CVT3_DEC"
  | .cvt3Enc _ => "CVT3_ENC"
  | .dtdDec _ => "DTD_DEC"
  | .dtdEnc _ => "DTD_ENC"
  | .slotDec _ => "SLOT_DEC"
  | .slotEnc _ => "SLOT_ENC"
  | .regDecDummy _ => "REG_DEC_DUMMY"
  | .regEncDummy _ => "REG_ENC_DUMMY"
  | .regDecSerial _ => "REG_DEC_SERIAL"
  | .regEncSerial _ => "REG_ENC_SERIAL"
  | .regDecAlnum _ => "REG_DEC_ALNUM"
  | .regEncAlnum _ => "REG_ENC_ALNUM"
  | .regDecRange _ => "REG_DEC_RANGE"
  | .regEncRange _ => "REG_ENC_RANGE"
  | .regDecName _ => "REG_DEC_NAME"
  | .regEncName _ => "REG_ENC_NAME"
  | .regDecEt3 _ => "REG_DEC_ET3"
  | .regEncEt3 _ => "REG_ENC_ET3"
  | .cvtGen _ => "CVT_GEN"
  | .gtfGen _ => "GTF_GEN"

/-! ## The host's view of the opcode table -/

/-- The operand that stands behind an op code when every bit above the op byte is 0 (log entry 3): a byte string of
zeros of the length R65 fixes (empty for CHK_COMPUTE), the unused slot, and records whose fields are all zero. -/
def zeroOperand (op : BitVec 8) : Operand :=
  match op.toNat with
  | 0x01 => .bytes []
  | 0x02 => .bytes (List.replicate 128 0)
  | 0x03 => .bytes (List.replicate 128 0)
  | 0x10 => .bytes [0, 0]
  | 0x11 => .stdIn none
  | 0x12 => .bytes [0, 0, 0]
  | 0x13 => .cvt3In { vActive := 0, aspect := 0, rsvA := 0, prefRate := 0, rates := 0, rsvB := 0 }
  | 0x21 =>
    .dtdIn
      { pixelClock := 0, hActive := 0, hBlank := 0, vActive := 0, vBlank := 0, hFrontPorch := 0, hSyncWidth := 0,
        vFrontPorch := 0, vSyncWidth := 0, hSizeMm := 0, vSizeMm := 0, hBorder := 0, vBorder := 0,
        interlaced := false, stereo := 0, sync := .analog false false false }
  | 0x31 => .descIn .dummy
  | 0x41 => .descIn .dummy
  | 0x43 => .descIn (.serialNumber [])
  | 0x45 => .descIn (.alphanumericString [])
  | 0x47 =>
    .descIn (.displayRangeLimits
      { vMin := 0, vMax := 0, hMin := 0, hMax := 0, vMinPlus255 := false, vMaxPlus255 := false,
        hMinPlus255 := false, hMaxPlus255 := false, flagsRsv := 0, maxPclk10 := 0,
        timing := .plain 0 (Vector.replicate 7 0) })
  | 0x49 => .descIn (.productName [])
  | 0x4B => .descIn (.establishedTimingsIII { bitmap := Vector.replicate 6 0, rsv := Vector.replicate 6 0 })
  | 0x50 => .cvtGenIn { hActive := 0, vActive := 0, refresh := 0, rb := 0, interlaced := false, margins := false }
  | 0x60 =>
    .gtfGenIn
      { hActive := 0, vActive := 0, refresh := 0, interlaced := false, margins := false, m := 0, c := 0, k := 0,
        j := 0 }
  | _ => .bytes (List.replicate 18 0)

/-- The request whose bits are `w`, `nbits` of them given: the op byte, and an operand of zeros. -/
def tableRequest (nbits w : Nat) : Request :=
  { op := BitVec.ofNat 8 (w % 2 ^ nbits), operand := zeroOperand (BitVec.ofNat 8 (w % 2 ^ nbits)) }

/-- What the decoder reads from a table word. A request has one op byte and no other wire bits (R80), so a word with a
bit above bit 7 is no request. -/
def decodeTableWord (nbits w : Nat) : Option Instr :=
  if w % 2 ^ nbits < 256 then
    match decode (tableRequest nbits w) with
    | .ok i => some i
    | .error _ => none
  else none

end Sys2Proof
end

