-- ==== Sys2Proof/Machine/State.lean ====
section
/-! DEFINITION. The state of the machine and the reasons a step can stop. The unit itself holds no state
(spec/10_state.md R20, R22 to R26): what the machine holds is its transaction interface (R21), the requests
issued and the responses given. -/

namespace Sys2Proof.Machine

/-- The unit raises no fault: R316 to R319 give it no trap, and every request, a bad one included, gets a
response (R310, R349). So no fault has a name. -/
inductive Fault where
  deriving DecidableEq, Repr

/-- Why an instruction has no meaning. -/
inductive Refusal where
  /-- Raised by an arm of `exec` that has no meaning yet (none is left); safe, since the machine stops. -/
  | notModelled (mnemonic : String)
  deriving DecidableEq, Repr

/-- The transaction interface, plain data (log entry 1).
`pending`: the requests issued and not yet answered, oldest first; the head is the one in flight (R343).
`responses`: the responses given, oldest first (R70). -/
structure State where
  pending : List Request
  responses : List Response
  deriving DecidableEq, Repr

/-- R40, R340: reset gives nothing a value, abandons any request in flight and leaves the unit ready. The empty list of
responses is the model's (log entry 1). -/
def State.reset : State :=
  { pending := [], responses := [] }

end Sys2Proof.Machine
end

