-- ==== Sys2Proof/Machine/Flags.lean ====
section
/-! DEFINITION. Statuses, which stand in for flags: the unit has no flags or condition codes (spec/10_state.md R24), and what a
processor would report as flags it reports in the status of its response (spec/60_exceptions.md R310, R311). -/

namespace Sys2Proof.Machine

/-- The code column of R310. -/
def statusCode : Status → BitVec 8
  | .ok => 0
  | .notThisType => 1
  | .doesNotApply => 2
  | .failMalformed => 3
  | .failRange => 4
  | .failLength => 5
  | .usageError => 6
  | .domainError => 7
  | .illegalOp => 8

/-- The status of a code of R310, and `none` for a code R310 does not give. -/
def statusOfCode (c : BitVec 8) : Option Status :=
  match c.toNat with
  | 0 => some .ok
  | 1 => some .notThisType
  | 2 => some .doesNotApply
  | 3 => some .failMalformed
  | 4 => some .failRange
  | 5 => some .failLength
  | 6 => some .usageError
  | 7 => some .domainError
  | 8 => some .illegalOp
  | _ => none

/-- R311: only the codes 3 to 8 report an error; `NOT_THIS_TYPE` and `DOES_NOT_APPLY` are outcomes. -/
def statusIsError (s : Status) : Bool :=
  decide (3 ≤ (statusCode s).toNat)

/-- The status of the free choice among the eight statuses other than `OK` (log entry 6). -/
def failureStatus (k : Fin 8) : Status :=
  match k.val with
  | 0 => .notThisType
  | 1 => .doesNotApply
  | 2 => .failMalformed
  | 3 => .failRange
  | 4 => .failLength
  | 5 => .usageError
  | 6 => .domainError
  | _ => .illegalOp

end Sys2Proof.Machine
end

