-- ==== Sys2Proof/Machine/Ops.lean ====
section
/-! DEFINITION. The named operations over the interface: how an operation ends (`raise` and `return OK`, spec/00_scope.md R12),
how its response is given (spec/10_state.md R21, spec/60_exceptions.md R310, R314), and the moves the host can make
(issue a request, reset the unit). There is no memory to read or write (R23) and no trap to enter or return from (R316, R317): ending with
a status IS this unit's exception. -/

namespace Sys2Proof.Machine

/-- What an operation answers: `.ok r` is `result <- r; return OK`, `.error s` is `raise s` (R12). -/
abbrev Answer := Except Status Result

/-- R12, R310: `raise s` ends the operation at once. The `info` argument is not part of the response (log entry 10). -/
def raise {α : Type} (s : Status) : Except Status α :=
  .error s

/-- R21, R314: an answer as a response. A status other than `OK` carries no result. -/
def responseOf (a : Answer) : Response :=
  match a with
  | .ok r => { status := .ok, result := some r }
  | .error s => { status := s, result := none }

/-- The one way a request ends: its response joins the responses given, in order (R70), and nothing else changes
(R315). -/
def deliver (a : Answer) (s : State) : State :=
  { s with responses := s.responses ++ [responseOf a] }

/-- A meaning's outcome: the response is delivered and the machine goes on, whatever the status (R315 to R317). -/
def respond (a : Answer) (s : State) : Host.Outcome State Fault Refusal :=
  .next (deliver a s)

/-- HOST MOVE (R21): issue a request, behind those already issued. -/
def hostIssue (r : Request) (s : State) : State :=
  { s with pending := s.pending ++ [r] }

/-- HOST MOVE (R340): reset abandons every unanswered request, which then gets no response, and leaves the unit ready;
the responses already given are the host's (log entry 4). -/
def hostReset (s : State) : State :=
  { s with pending := [] }

end Sys2Proof.Machine
end

