-- ==== Sys2Proof/Machine/Operands.lean ====
section
/-! DEFINITION. Operand access: one reader per operand kind of spec/10_state.md R27, with the checks of spec/30_encoding.md R83 in the order of
spec/60_exceptions.md R313 (the kind first, then the length), and the bit fields of bytes (spec/00_scope.md R8, R10). -/

namespace Sys2Proof.Machine

/-- A byte string of any length. -/
def bytesOperand (o : Operand) : Except Status (List Byte) :=
  match o with
  | .bytes b => .ok b
  | _ => raise .failMalformed

/-- A list of bytes as a string of exactly `n` bytes. -/
def toBytes (n : Nat) (l : List Byte) : Option (Bytes n) :=
  if h : l.length = n then some ⟨l.toArray, by simpa using h⟩ else none

/-- A byte string of exactly `n` bytes (R65): `FAIL_MALFORMED` for another kind, `FAIL_LENGTH` for another length. -/
def bytesOperandOf (n : Nat) (o : Operand) : Except Status (Bytes n) :=
  match bytesOperand o with
  | .error s => raise s
  | .ok l =>
    match toBytes n l with
    | some b => .ok b
    | none => raise .failLength

def stdOperand (o : Operand) : Except Status (Option StdTiming) :=
  match o with
  | .stdIn t => .ok t
  | _ => raise .failMalformed

def cvt3Operand (o : Operand) : Except Status CvtCode :=
  match o with
  | .cvt3In c => .ok c
  | _ => raise .failMalformed

def dtdOperand (o : Operand) : Except Status Dtd :=
  match o with
  | .dtdIn d => .ok d
  | _ => raise .failMalformed

def descOperand (o : Operand) : Except Status Descriptor :=
  match o with
  | .descIn d => .ok d
  | _ => raise .failMalformed

def cvtGenOperand (o : Operand) : Except Status CvtGenArgs :=
  match o with
  | .cvtGenIn g => .ok g
  | _ => raise .failMalformed

def gtfGenOperand (o : Operand) : Except Status GtfGenArgs :=
  match o with
  | .gtfGenIn g => .ok g
  | _ => raise .failMalformed

/-- `v[hi:lo]` of R8: the unsigned field of `v` from bit `hi` down to bit `lo`, both included. -/
def field {w : Nat} (v : BitVec w) (hi lo : Nat) : BitVec (hi - lo + 1) :=
  v.extractLsb' lo (hi - lo + 1)

/-- `v[i]` of R8 as a Boolean. -/
def bit {w : Nat} (v : BitVec w) (i : Nat) : Bool :=
  v.getLsbD i

/-- A Boolean as a one-bit field, for R10's `{x, y}`. -/
def flag (b : Bool) : BitVec 1 :=
  BitVec.ofBool b

end Sys2Proof.Machine
end

