-- ==== Sys2Proof/Machine/Parameters.lean ====
section
/-! DEFINITION. The column "this hardware" of spec/00_scope.md R6: the values of the implementation parameters, fixed
when the unit is built (R25). -/

namespace Sys2Proof.Machine

/-- R6: 5 refresh bits, exact aspect match, exact arithmetic, and no bound on lengths or dimensions. -/
def unitConfig : Config :=
  { stdRefreshBits := .five, aspectMatch := .exact, genArith := .exact, chkMaxLen := none, genDimMax := none }

end Sys2Proof.Machine
end

