-- ==== Sys2Proof/Machine/Checksum.lean ====
section
/-! DEFINITION. The Checksum Unit (spec/40_checksum.md R140 to R143). -/

namespace Sys2Proof.Machine

/-- The exact sum of a byte string, each byte read as an unsigned number (R140). -/
def byteSum (b : List Byte) : Nat :=
  (b.map BitVec.toNat).sum

/-- `cs` of R140: the two's complement of the sum. -/
def checksum (b : List Byte) : Byte :=
  BitVec.ofNat 8 ((256 - byteSum b % 256) % 256)

/-- Bytes 0 to 126 of a block (R141, 90_conflicts C1). -/
def blockBody (b : Bytes 128) : List Byte :=
  b.toList.take 127

/-- R140, with the bound `CHK_MAX_LEN` of R6. -/
def chkCompute (cfg : Config) (o : Operand) : Answer :=
  match bytesOperand o with
  | .error s => raise s
  | .ok b =>
    match cfg.chkMaxLen with
    | none => .ok (.byte (checksum b))
    | some n => if b.length > n then raise .failLength else .ok (.byte (checksum b))

/-- R141. -/
def chkValidate (o : Operand) : Answer :=
  match bytesOperandOf 128 o with
  | .error s => raise s
  | .ok b => .ok (.bool (checksum (blockBody b) == b[127]))

/-- R142. -/
def chkSeal (o : Operand) : Answer :=
  match bytesOperandOf 128 o with
  | .error s => raise s
  | .ok b => .ok (.bytes (blockBody b ++ [checksum (blockBody b)]))

/-- CHK_COMPUTE, R140. -/
def execChkCompute (o : Operand) (s : State) : Host.Outcome State Fault Refusal :=
  respond (chkCompute unitConfig o) s

/-- CHK_VALIDATE, R141. -/
def execChkValidate (o : Operand) (s : State) : Host.Outcome State Fault Refusal :=
  respond (chkValidate o) s

/-- CHK_SEAL, R142. -/
def execChkSeal (o : Operand) (s : State) : Host.Outcome State Fault Refusal :=
  respond (chkSeal o) s

end Sys2Proof.Machine
end

