-- ==== Sys2Proof/Machine/FieldCodecs.lean ====
section
/-! DEFINITION. The Field Codecs: the 2-byte Standard Timing (spec/41_field_codecs.md R150 to R153, layout
spec/30_encoding.md R90, R91) and the 3-byte CVT timing code (R155 to R158, layout R92). -/

namespace Sys2Proof.Machine

/-! ## Standard Timing -/

/-- R152. Bits 5 down to `W` of byte 1 are ignored. -/
def stdDecode (w : Nat) (b : Bytes 2) : Option StdTiming :=
  if b[0] = 0x01 ∧ b[1] = 0x01 then none
  else
    some
      { hActive8 := b[0].toNat + 31
        aspect := field b[1] 7 6
        refresh := (b[1].extractLsb' 0 w).toNat + 60 }

/-- R153, with the checks in its order. -/
def stdEncode (w : Nat) (o : Option StdTiming) : Except Status (List Byte) :=
  match o with
  | none => .ok [0x01, 0x01]
  | some t =>
    if t.hActive8 < 31 ∨ t.hActive8 > 286 then raise .failRange
    else if t.refresh < 60 ∨ t.refresh > 60 + (2 ^ w - 1) then raise .failRange
    else
      let b0 : Byte := BitVec.ofNat 8 (t.hActive8 - 31)
      let b1 : Byte := t.aspect ++ (BitVec.ofNat w (t.refresh - 60)).setWidth 6
      if b0 = 0x01 ∧ b1 = 0x01 then raise .failRange else .ok [b0, b1]

/-- R152, for the width of R150. -/
def stdDec (cfg : Config) (o : Operand) : Answer :=
  match bytesOperandOf 2 o with
  | .error s => raise s
  | .ok b => .ok (.std (stdDecode cfg.stdRefreshBits.width b))

/-- R153, for the width of R150. -/
def stdEnc (cfg : Config) (o : Operand) : Answer :=
  match stdOperand o with
  | .error s => raise s
  | .ok t => (stdEncode cfg.stdRefreshBits.width t).map .bytes

/-- STD_DEC, R152. -/
def execStdDec (o : Operand) (s : State) : Host.Outcome State Fault Refusal :=
  respond (stdDec unitConfig o) s

/-- STD_ENC, R153. -/
def execStdEnc (o : Operand) (s : State) : Host.Outcome State Fault Refusal :=
  respond (stdEnc unitConfig o) s

/-! ## CVT 3-byte timing code -/

/-- R157. Every 3-byte string decodes (R156). -/
def cvt3Decode (b : Bytes 3) : CvtCode :=
  let l : BitVec 12 := field b[1] 7 4 ++ b[0]
  { vActive := 2 * l.toNat + 2
    aspect := field b[1] 3 2
    rsvA := field b[1] 1 0
    rsvB := field b[2] 7 7
    prefRate := field b[2] 6 5
    rates := field b[2] 4 0 }

/-- R158. -/
def cvt3Encode (c : CvtCode) : Except Status (List Byte) :=
  if c.vActive % 2 ≠ 0 ∨ c.vActive < 2 ∨ c.vActive > 8192 then raise .failRange
  else
    let l : BitVec 12 := BitVec.ofNat 12 (c.vActive / 2 - 1)
    let b0 : Byte := field l 7 0
    let b1 : Byte := field l 11 8 ++ c.aspect ++ c.rsvA
    let b2 : Byte := c.rsvB ++ c.prefRate ++ c.rates
    .ok [b0, b1, b2]

def cvt3Dec (o : Operand) : Answer :=
  match bytesOperandOf 3 o with
  | .error s => raise s
  | .ok b => .ok (.cvt3 (cvt3Decode b))

def cvt3Enc (o : Operand) : Answer :=
  match cvt3Operand o with
  | .error s => raise s
  | .ok c => (cvt3Encode c).map .bytes

/-- CVT3_DEC, R157. -/
def execCvt3Dec (o : Operand) (s : State) : Host.Outcome State Fault Refusal :=
  respond (cvt3Dec o) s

/-- CVT3_ENC, R158. -/
def execCvt3Enc (o : Operand) (s : State) : Host.Outcome State Fault Refusal :=
  respond (cvt3Enc o) s

end Sys2Proof.Machine
end

