-- ==== Sys2Proof/Machine/Arith.lean ====
section
/-! DEFINITION. The arithmetic of the generators (spec/00_scope.md R6 `GEN_ARITH`, R11; spec/44_cvt.md R257; spec/45_gtf.md R293). The generators
are written once, over the operations of an `Arithmetic`. `exactArithmetic`, which this hardware takes, is ℚ;
`binary64Arithmetic` is IEEE 754 double arithmetic with its signed zeros, infinities and NaN (log entry 7, PRESUMED). -/

namespace Sys2Proof

/-- The operations a step of a generator is made of, over the values `α`. `lit` takes a constant or an operand in, `out` gives
a value out as a field of the response. -/
structure Arithmetic (α : Type) where
  lit : ℚ → α
  add : α → α → α
  sub : α → α → α
  mul : α → α → α
  div : α → α → α
  floor : α → α
  round : α → α
  lt : α → α → Bool
  le : α → α → Bool
  eq : α → α → Bool
  out : TimingField → α → ℚ

/-! ## Exact rationals -/

/-- `floor` of R11. -/
def floorQ (x : ℚ) : ℚ := ((⌊x⌋ : ℤ) : ℚ)

/-- `round(x) = floor(x + 1/2)` of R11: a value exactly halfway goes up. -/
def roundQ (x : ℚ) : ℚ := floorQ (x + 1 / 2)

/-- `GEN_ARITH = exact`. No step of the exact arithmetic divides by zero (D23). -/
def exactArithmetic : Arithmetic ℚ :=
  { lit := fun x => x
    add := fun x y => x + y
    sub := fun x y => x - y
    mul := fun x y => x * y
    div := fun x y => x / y
    floor := floorQ
    round := roundQ
    lt := fun x y => decide (x < y)
    le := fun x y => decide (x ≤ y)
    eq := fun x y => decide (x = y)
    out := fun _ x => x }

/-! ## IEEE 754 doubles -/

/-- A value of binary64. `finite 0` is the positive zero. -/
inductive Binary64 where
  | finite (x : ℚ)
  | negZero
  | infinite (negative : Bool)
  | nan
  deriving DecidableEq, Repr

/-- `2 ^ e` for an integer `e`. -/
def pow2 (e : ℤ) : ℚ :=
  if 0 ≤ e then ((2 ^ e.toNat : ℕ) : ℚ) else 1 / ((2 ^ (-e).toNat : ℕ) : ℚ)

/-- The exponent `e` with `2 ^ e ≤ x < 2 ^ (e + 1)`, for `x > 0`. -/
def exponentOf (x : ℚ) : ℤ :=
  let e : ℤ := (x.num.natAbs.log2 : ℤ) - (x.den.log2 : ℤ)
  if pow2 e ≤ x then e else e - 1

/-- The nearest integer, ties to even. -/
def roundHalfEven (x : ℚ) : ℤ :=
  let n := ⌊x⌋
  if x - n < 1 / 2 then n else if 1 / 2 < x - n then n + 1 else if n % 2 = 0 then n else n + 1

/-- The spacing of the doubles around `x > 0`: 53 significant bits, none below `2 ^ (-1074)`. -/
def doubleQuantum (x : ℚ) : ℚ :=
  pow2 (max (exponentOf x - 52) (-1074))

/-- The zero of a sign. -/
def Binary64.zero (negative : Bool) : Binary64 :=
  if negative then .negZero else .finite 0

/-- The double nearest to `x`, ties to even: a zero or an infinity of the sign of `x` where the magnitude rounds to 0 or to
`2 ^ 1024` or more. -/
def toDouble (x : ℚ) : Binary64 :=
  if x = 0 then .finite 0
  else
    let q := doubleQuantum |x|
    let y := (roundHalfEven (x / q) : ℚ) * q
    if y = 0 then .zero (decide (x < 0))
    else if |y| < pow2 1024 then .finite y
    else .infinite (decide (x < 0))

/-- The sign bit; a NaN's is never asked for. -/
def Binary64.negative (x : Binary64) : Bool :=
  match x with
  | .finite q => decide (q < 0)
  | .negZero => true
  | .infinite n => n
  | .nan => false

/-- The rational of a finite double; 0 for the others, where it is never asked for. -/
def Binary64.value (x : Binary64) : ℚ :=
  match x with
  | .finite q => q
  | .negZero => 0
  | .infinite _ => 0
  | .nan => 0

def Binary64.isZero (x : Binary64) : Bool :=
  match x with
  | .finite q => decide (q = 0)
  | .negZero => true
  | .infinite _ => false
  | .nan => false

def Binary64.neg (x : Binary64) : Binary64 :=
  match x with
  | .finite q => if q = 0 then .negZero else .finite (-q)
  | .negZero => .finite 0
  | .infinite n => .infinite !n
  | .nan => .nan

/-- An exact product or quotient of finite doubles, rounded; a zero takes the sign of the operation. -/
def signedRound (negative : Bool) (x : ℚ) : Binary64 :=
  if x = 0 then .zero negative else toDouble x

def Binary64.add (x y : Binary64) : Binary64 :=
  match x, y with
  | .nan, _ => .nan
  | _, .nan => .nan
  | .infinite m, .infinite n => if m = n then .infinite m else .nan
  | .infinite m, _ => .infinite m
  | _, .infinite n => .infinite n
  | .negZero, .negZero => .negZero
  | x, y => toDouble (x.value + y.value)

def Binary64.sub (x y : Binary64) : Binary64 := x.add y.neg

def Binary64.mul (x y : Binary64) : Binary64 :=
  match x, y with
  | .nan, _ => .nan
  | _, .nan => .nan
  | .infinite m, y => if y.isZero then .nan else .infinite (m != y.negative)
  | x, .infinite n => if x.isZero then .nan else .infinite (x.negative != n)
  | x, y => signedRound (x.negative != y.negative) (x.value * y.value)

def Binary64.div (x y : Binary64) : Binary64 :=
  match x, y with
  | .nan, _ => .nan
  | _, .nan => .nan
  | .infinite _, .infinite _ => .nan
  | .infinite m, y => .infinite (m != y.negative)
  | x, .infinite n => .zero (x.negative != n)
  | x, y =>
    if y.isZero then if x.isZero then .nan else .infinite (x.negative != y.negative)
    else signedRound (x.negative != y.negative) (x.value / y.value)

/-- `Math.floor` of R257: the floor of a double is a double, and no finite one but -0 has the floor -0. -/
def Binary64.floor (x : Binary64) : Binary64 :=
  match x with
  | .finite q => .finite (floorQ q)
  | .negZero => .negZero
  | .infinite n => .infinite n
  | .nan => .nan

/-- `Math.round` of R293: a value exactly halfway goes up, and a negative one that rounds to 0 gives -0. -/
def Binary64.round (x : Binary64) : Binary64 :=
  match x with
  | .finite q => if roundQ q = 0 then .zero (decide (q < 0)) else .finite (roundQ q)
  | .negZero => .negZero
  | .infinite n => .infinite n
  | .nan => .nan

/-- `x < y`: false where either is a NaN; the zeros are equal. -/
def Binary64.lt (x y : Binary64) : Bool :=
  match x, y with
  | .nan, _ => false
  | _, .nan => false
  | .infinite m, .infinite n => m && !n
  | .infinite m, _ => m
  | _, .infinite n => !n
  | x, y => decide (x.value < y.value)

/-- `x == y`: false where either is a NaN; the zeros are equal. -/
def Binary64.eq (x y : Binary64) : Bool :=
  match x, y with
  | .nan, _ => false
  | _, .nan => false
  | .infinite m, .infinite n => m == n
  | .infinite _, _ => false
  | _, .infinite _ => false
  | x, y => decide (x.value = y.value)

def Binary64.le (x y : Binary64) : Bool := x.lt y || x.eq y

/-- A double as a field of the response to the request with the operand `o`: R39 has rationals only, so -0 is 0 and a value that
is not finite is free (log entry 7). -/
def Binary64.out (o : Operand) (f : TimingField) (x : Binary64) : ℚ :=
  match x with
  | .finite q => q
  | .negZero => 0
  | .infinite false => Config.nonFinite o f .posInfinity
  | .infinite true => Config.nonFinite o f .negInfinity
  | .nan => Config.nonFinite o f .notANumber

/-- `GEN_ARITH = binary64`, for the request with the operand `o`. -/
def binary64Arithmetic (o : Operand) : Arithmetic Binary64 :=
  { lit := toDouble
    add := Binary64.add
    sub := Binary64.sub
    mul := Binary64.mul
    div := Binary64.div
    floor := Binary64.floor
    round := Binary64.round
    lt := Binary64.lt
    le := Binary64.le
    eq := Binary64.eq
    out := Binary64.out o }

end Sys2Proof
end

