-- ==== Sys2Proof/Machine/Cvt.lean ====
section
/-! DEFINITION. The CVT generator (spec/44_cvt.md R240 to R257), step by step. The constants are local to it (R241). -/

namespace Sys2Proof.Machine

/-- The bound `GEN_DIM_MAX` of R6, for both generators. This hardware has none; R6 states no status for a request
above a bound, so under a bound the status is a free one (log entry 6). -/
def checkDimensions (cfg : Config) (h v : Nat) : Except Status Unit :=
  match cfg.genDimMax with
  | none => .ok ()
  | some n => if h ≤ n ∧ v ≤ n then .ok () else raise (failureStatus (Config.overDimension h v))

/-! ## Constants, R241 and R242 -/

def cvtCellGran : ℚ := 8
def cvtMinDuty : ℚ := 20
def cvtClockStep : ℚ := 1 / 4
def cvtMarginPer : ℚ := 9 / 5
def cvtMinVPorch : ℚ := 3
def cvtMinVBporch : ℚ := 6
def cvtMinVsyncBp : ℚ := 550
def cvtHSyncPer : ℚ := 8
def cvtCPrime : ℚ := 30
def cvtMPrime : ℚ := 300
/-- `RB_MIN_V_BLANK`, the same for the three sub-variants. -/
def cvtRbMinVBlank : ℚ := 460

/-- The four values of the selector R243 accepts. -/
inductive Blanking where
  | off
  | v1
  | v2
  | v2video
  deriving DecidableEq, Repr

/-- R38, R243: the selector byte. -/
def blankingOf (rb : BitVec 8) : Option Blanking :=
  match rb.toNat with
  | 0 => some .off
  | 1 => some .v1
  | 2 => some .v2
  | 3 => some .v2video
  | _ => none

/-- A row of R242. -/
structure RbConstants where
  hBlank : ℚ
  hSync : ℚ
  hFporch : ℚ
  hBporch : ℚ
  clockStep : ℚ
  factor : ℚ
  deriving DecidableEq, Repr

/-- R242, row v1. -/
def rbConstantsV1 : RbConstants :=
  { hBlank := 160, hSync := 32, hFporch := 48, hBporch := 80, clockStep := 1 / 4, factor := 1 }

/-- R242, row v2. -/
def rbConstantsV2 : RbConstants :=
  { hBlank := 80, hSync := 32, hFporch := 8, hBporch := 40, clockStep := 1 / 1000, factor := 1 }

/-- R242, row v2-video. -/
def rbConstantsV2video : RbConstants :=
  { hBlank := 80, hSync := 32, hFporch := 8, hBporch := 40, clockStep := 1 / 1000, factor := 1000 / 1001 }

/-! ## Shared steps -/

/-- The values of R244. -/
structure CvtSetup (α : Type) where
  vFieldRate : α
  hRnd : α
  left : α
  tap : α
  vRnd : α
  top : α
  il : α
  deriving DecidableEq, Repr

/-- R244. -/
def cvtSetup {α : Type} (A : Arithmetic α) (a : CvtGenArgs) : CvtSetup α :=
  let refresh := A.lit a.refresh
  let gran := A.lit cvtCellGran
  let hRnd := A.mul (A.floor (A.div (A.lit a.hActive) gran)) gran
  let left :=
    if a.margins then
      A.mul (A.floor (A.div (A.div (A.mul hRnd (A.lit cvtMarginPer)) (A.lit 100)) gran)) gran
    else A.lit 0
  let vRnd := if a.interlaced then A.floor (A.div (A.lit a.vActive) (A.lit 2)) else A.lit a.vActive
  { vFieldRate := if a.interlaced then A.mul (A.lit 2) refresh else refresh
    hRnd := hRnd
    left := left
    tap := A.add hRnd (A.mul (A.lit 2) left)
    vRnd := vRnd
    top := if a.margins then A.floor (A.mul (A.div (A.lit cvtMarginPer) (A.lit 100)) vRnd) else A.lit 0
    il := if a.interlaced then A.lit (1 / 2) else A.lit 0 }

/-- `V_RND + 2 * TOP`, the lines between the blanks. -/
def cvtLines {α : Type} (A : Arithmetic α) (u : CvtSetup α) : α :=
  A.add u.vRnd (A.mul (A.lit 2) u.top)

/-- `match` of R245, under `ASPECT_MATCH`. -/
def aspectMatches {α : Type} (A : Arithmetic α) (m : AspectMatch) (vActive : Nat) (hRnd : α) (ar br : ℚ) : Bool :=
  match m with
  | .exact => A.eq (A.mul (A.lit vActive) (A.lit ar)) (A.mul hRnd (A.lit br))
  | .cell =>
    A.eq hRnd
      (A.mul (A.lit cvtCellGran)
        (A.floor (A.div (A.div (A.mul (A.lit vActive) (A.lit ar)) (A.lit br)) (A.lit cvtCellGran))))

/-- The five ratios of R245 with their sync widths, in its order. -/
def aspectWidths : List (ℚ × ℚ × ℚ) :=
  [(4, 3, 4), (16, 9, 5), (16, 10, 6), (5, 4, 7), (15, 9, 7)]

/-- The width of the first ratio that matches, 10 when none does (R245). -/
def firstAspectWidth {α : Type} (A : Arithmetic α) (m : AspectMatch) (vActive : Nat) (hRnd : α)
    (rows : List (ℚ × ℚ × ℚ)) : ℚ :=
  match rows with
  | [] => 10
  | (ar, br, w) :: rest =>
    if aspectMatches A m vActive hRnd ar br then w else firstAspectWidth A m vActive hRnd rest

/-- `V_SYNC` of R245, a whole number below 11. -/
def cvtVSync {α : Type} (A : Arithmetic α) (m : AspectMatch) (blanking : Blanking) (vActive : Nat) (hRnd : α) : ℚ :=
  match blanking with
  | .off => firstAspectWidth A m vActive hRnd aspectWidths
  | .v1 => firstAspectWidth A m vActive hRnd aspectWidths
  | .v2 => 8
  | .v2video => 8

/-- What the standard and the reduced model hand to the outputs of R255. -/
structure CvtTiming (α : Type) where
  hBlank : α
  hSync : α
  hFrontPorch : α
  hBackPorch : α
  hTotal : α
  pixelClock : α
  vFrontPorch : α
  vSync : α
  vBackPorch : α
  vTotal : α
  hSyncPositive : Bool
  vSyncPositive : Bool
  deriving DecidableEq, Repr

/-! ## Standard blanking -/

/-- `H_PERIOD_EST` of R246. -/
def cvtPeriodStandard {α : Type} (A : Arithmetic α) (u : CvtSetup α) : α :=
  A.div (A.sub (A.div (A.lit 1000000) u.vFieldRate) (A.lit cvtMinVsyncBp))
    (A.add (A.add (cvtLines A u) (A.lit cvtMinVPorch)) u.il)

/-- `V_SYNC_BP` of R247. -/
def cvtVSyncBp {α : Type} (A : Arithmetic α) (vSync period : α) : α :=
  let lines := A.add (A.floor (A.div (A.lit cvtMinVsyncBp) period)) (A.lit 1)
  let least := A.add vSync (A.lit cvtMinVBporch)
  if A.lt lines least then least else lines

/-- `DUTY` of R248. -/
def cvtDuty {α : Type} (A : Arithmetic α) (period : α) : α :=
  let ideal := A.sub (A.lit cvtCPrime) (A.div (A.mul (A.lit cvtMPrime) period) (A.lit 1000))
  if A.lt ideal (A.lit cvtMinDuty) then A.lit cvtMinDuty else ideal

/-- `H_BLANK` of R248. -/
def cvtHBlank {α : Type} (A : Arithmetic α) (tap duty : α) : α :=
  let gran := A.mul (A.lit 2) (A.lit cvtCellGran)
  A.mul (A.floor (A.div (A.div (A.mul tap duty) (A.sub (A.lit 100) duty)) gran)) gran

/-- `H_SYNC` of R250. -/
def cvtHSync {α : Type} (A : Arithmetic α) (hTotal : α) : α :=
  A.mul (A.floor (A.div (A.mul (A.div (A.lit cvtHSyncPer) (A.lit 100)) hTotal) (A.lit cvtCellGran)))
    (A.lit cvtCellGran)

/-- `PIXEL_CLOCK` of R249. -/
def cvtStandardClock {α : Type} (A : Arithmetic α) (hTotal period : α) : α :=
  A.mul (A.lit cvtClockStep) (A.floor (A.div (A.div hTotal period) (A.lit cvtClockStep)))

/-- R246 to R252 for `rb = 0`. -/
def cvtStandard {α : Type} (A : Arithmetic α) (u : CvtSetup α) (vSync : α) : Except Status (CvtTiming α) :=
  let period := cvtPeriodStandard A u
  if A.le period (A.lit 0) then raise .domainError
  else
    let vSyncBp := cvtVSyncBp A vSync period
    let hBlank := cvtHBlank A u.tap (cvtDuty A period)
    let hTotal := A.add u.tap hBlank
    if A.eq hTotal (A.lit 0) then raise .domainError
    else
      let hSync := cvtHSync A hTotal
      let hBackPorch := A.div hBlank (A.lit 2)
      .ok
        { hBlank := hBlank
          hSync := hSync
          hFrontPorch := A.sub (A.sub hBlank hSync) hBackPorch
          hBackPorch := hBackPorch
          hTotal := hTotal
          pixelClock := cvtStandardClock A hTotal period
          vFrontPorch := A.lit cvtMinVPorch
          vSync := vSync
          vBackPorch := A.sub vSyncBp vSync
          vTotal := A.add (A.add (A.add (cvtLines A u) vSyncBp) u.il) (A.lit cvtMinVPorch)
          hSyncPositive := false
          vSyncPositive := true }

/-! ## Reduced blanking -/

/-- `ACT_VBI` of R253, given `RB_MIN_VBI` and the period estimate. -/
def cvtActVbi {α : Type} (A : Arithmetic α) (minVbi period : α) : α :=
  let vbiLines := A.add (A.floor (A.div (A.lit cvtRbMinVBlank) period)) (A.lit 1)
  if A.lt vbiLines minVbi then minVbi else vbiLines

/-- `PIXEL_CLOCK` of R254. -/
def cvtReducedClock {α : Type} (A : Arithmetic α) (k : RbConstants) (vFieldRate vTotal hTotal : α) : α :=
  A.mul (A.lit k.clockStep)
    (A.floor
      (A.div
        (A.mul (A.div (A.mul (A.mul vFieldRate vTotal) hTotal) (A.lit 1000000)) (A.lit k.factor))
        (A.lit k.clockStep)))

/-- R252 to R254, given the row of R242, `RB_MIN_VBI`, and how the vertical porches follow from `ACT_VBI`. -/
def cvtReduced {α : Type} (A : Arithmetic α) (u : CvtSetup α) (vSync : α) (k : RbConstants) (minVbi : α)
    (frontPorch backPorch : α → α) : Except Status (CvtTiming α) :=
  let den := cvtLines A u
  if A.eq den (A.lit 0) then raise .domainError
  else
    let period := A.div (A.sub (A.div (A.lit 1000000) u.vFieldRate) (A.lit cvtRbMinVBlank)) den
    if A.le period (A.lit 0) then raise .domainError
    else
      let actVbi := cvtActVbi A minVbi period
      let hTotal := A.add u.tap (A.lit k.hBlank)
      let vTotal := A.add (A.add (A.add actVbi u.vRnd) (A.mul (A.lit 2) u.top)) u.il
      .ok
        { hBlank := A.lit k.hBlank
          hSync := A.lit k.hSync
          hFrontPorch := A.lit k.hFporch
          hBackPorch := A.lit k.hBporch
          hTotal := hTotal
          pixelClock := cvtReducedClock A k u.vFieldRate vTotal hTotal
          vFrontPorch := frontPorch actVbi
          vSync := vSync
          vBackPorch := backPorch actVbi
          vTotal := vTotal
          hSyncPositive := true
          vSyncPositive := false }

/-- R253 and R254 for v2 and v2-video: back porch 6, sync 8, `RB_MIN_VBI` 15 (R242). -/
def cvtReducedV2 {α : Type} (A : Arithmetic α) (u : CvtSetup α) (vSync : α) (k : RbConstants) :
    Except Status (CvtTiming α) :=
  cvtReduced A u vSync k (A.lit 15) (fun vbi => A.sub (A.sub vbi (A.lit 8)) (A.lit 6)) (fun _ => A.lit 6)

/-- R253 and R254 for v1: front porch 3, `RB_MIN_VBI = 3 + V_SYNC + 6` (R242). -/
def cvtReducedV1 {α : Type} (A : Arithmetic α) (u : CvtSetup α) (vSync : α) : Except Status (CvtTiming α) :=
  cvtReduced A u vSync rbConstantsV1 (A.add (A.add (A.lit 3) vSync) (A.lit 6)) (fun _ => A.lit 3)
    (fun vbi => A.sub (A.sub vbi (A.lit 3)) vSync)

/-- The model the selector chooses (R240). -/
def cvtTiming {α : Type} (A : Arithmetic α) (blanking : Blanking) (u : CvtSetup α) (vSync : α) :
    Except Status (CvtTiming α) :=
  match blanking with
  | .off => cvtStandard A u vSync
  | .v1 => cvtReducedV1 A u vSync
  | .v2 => cvtReducedV2 A u vSync rbConstantsV2
  | .v2video => cvtReducedV2 A u vSync rbConstantsV2video

/-! ## Outputs -/

/-- R255. -/
def cvtOutputs {α : Type} (A : Arithmetic α) (a : CvtGenArgs) (u : CvtSetup α) (t : CvtTiming α) : TimingParams :=
  let hRate := A.div (A.mul (A.lit 1000) t.pixelClock) t.hTotal
  let vFieldRate := A.div (A.mul (A.lit 1000) hRate) t.vTotal
  { hActive := A.out .hActive u.hRnd
    hBorder := A.out .hBorder u.left
    hFrontPorch := A.out .hFrontPorch t.hFrontPorch
    hSync := A.out .hSync t.hSync
    hBackPorch := A.out .hBackPorch t.hBackPorch
    hBlank := A.out .hBlank t.hBlank
    hTotal := A.out .hTotal t.hTotal
    vActive := A.out .vActive u.vRnd
    vBorder := A.out .vBorder u.top
    vFrontPorch := A.out .vFrontPorch t.vFrontPorch
    vSync := A.out .vSync t.vSync
    vBackPorch := A.out .vBackPorch t.vBackPorch
    vBlank := A.out .vBlank (A.add (A.add t.vFrontPorch t.vSync) t.vBackPorch)
    vTotal := A.out .vTotal t.vTotal
    pixelClock := A.out .pixelClock t.pixelClock
    hRate := A.out .hRate hRate
    vFieldRate := A.out .vFieldRate vFieldRate
    vRate := A.out .vRate (if a.interlaced then A.div vFieldRate (A.lit 2) else vFieldRate)
    interlaced := a.interlaced
    hSyncPositive := t.hSyncPositive
    vSyncPositive := t.vSyncPositive }

/-- R240: the selector is checked first (R243), then the refresh, then the steps in order. -/
def cvtGenerateIn {α : Type} (A : Arithmetic α) (m : AspectMatch) (a : CvtGenArgs) : Except Status TimingParams :=
  match blankingOf a.rb with
  | none => raise .usageError
  | some blanking =>
    if A.le (A.lit a.refresh) (A.lit 0) then raise .domainError
    else
      let u := cvtSetup A a
      match cvtTiming A blanking u (A.lit (cvtVSync A m blanking a.vActive u.hRnd)) with
      | .error s => raise s
      | .ok t => .ok (cvtOutputs A a u t)

/-- CVT_GEN in the arithmetic of the parameter `GEN_ARITH` (R6, R257). -/
def cvtGenerate (cfg : Config) (a : CvtGenArgs) : Except Status TimingParams :=
  match cfg.genArith with
  | .exact => cvtGenerateIn exactArithmetic cfg.aspectMatch a
  | .binary64 => cvtGenerateIn (binary64Arithmetic (.cvtGenIn a)) cfg.aspectMatch a

def cvtGen (cfg : Config) (o : Operand) : Answer :=
  match cvtGenOperand o with
  | .error s => raise s
  | .ok a =>
    match checkDimensions cfg a.hActive a.vActive with
    | .error s => raise s
    | .ok () => (cvtGenerate cfg a).map .timing

/-- CVT_GEN, R240. -/
def execCvtGen (o : Operand) (s : State) : Host.Outcome State Fault Refusal :=
  respond (cvtGen unitConfig o) s

end Sys2Proof.Machine
end

