-- ==== Sys2Proof/Machine/Gtf.lean ====
section
/-! DEFINITION. The GTF generator (spec/45_gtf.md R280 to R293), step by step. The constants are local to it (R281); the
bound on the dimensions is the one parameter of both generators (R6). -/

namespace Sys2Proof.Machine

/-! ## Constants, R281 -/

def gtfMinVsyncBp : ℚ := 550
def gtfVSyncRqd : ℚ := 3
def gtfCellGran : ℚ := 8
def gtfMarginPer : ℚ := 9 / 5
def gtfMinPorch : ℚ := 1
def gtfHSyncPer : ℚ := 8

/-! ## Vertical steps -/

/-- The values of R283. -/
structure GtfSetup (α : Type) where
  vFieldRate : α
  hRnd : α
  vRnd : α
  top : α
  il : α
  deriving DecidableEq, Repr

/-- R283. -/
def gtfSetup {α : Type} (A : Arithmetic α) (a : GtfGenArgs) : GtfSetup α :=
  let refresh := A.lit a.refresh
  let gran := A.lit gtfCellGran
  let vRnd := if a.interlaced then A.round (A.div (A.lit a.vActive) (A.lit 2)) else A.lit a.vActive
  { vFieldRate := if a.interlaced then A.mul (A.lit 2) refresh else refresh
    hRnd := A.mul (A.round (A.div (A.lit a.hActive) gran)) gran
    vRnd := vRnd
    top := if a.margins then A.round (A.mul (A.div (A.lit gtfMarginPer) (A.lit 100)) vRnd) else A.lit 0
    il := if a.interlaced then A.lit (1 / 2) else A.lit 0 }

/-- `V_RND + 2 * TOP`, the lines between the blanks. -/
def gtfActiveLines {α : Type} (A : Arithmetic α) (u : GtfSetup α) : α :=
  A.add u.vRnd (A.mul (A.lit 2) u.top)

/-- `H_PERIOD_EST` of R284. -/
def gtfPeriodEst {α : Type} (A : Arithmetic α) (u : GtfSetup α) : α :=
  A.div (A.sub (A.div (A.lit 1000000) u.vFieldRate) (A.lit gtfMinVsyncBp))
    (A.add (A.add (gtfActiveLines A u) (A.lit gtfMinPorch)) u.il)

/-- `V_SYNC_BP` of R285. -/
def gtfVSyncBp {α : Type} (A : Arithmetic α) (periodEst : α) : α :=
  A.round (A.div (A.lit gtfMinVsyncBp) periodEst)

/-- `V_TOTAL` of R286. -/
def gtfVTotal {α : Type} (A : Arithmetic α) (u : GtfSetup α) (vSyncBp : α) : α :=
  A.add (A.add (A.add (gtfActiveLines A u) vSyncBp) u.il) (A.lit gtfMinPorch)

/-- `H_PERIOD` of R287: the single refinement. -/
def gtfPeriod {α : Type} (A : Arithmetic α) (vFieldRate periodEst vTotal : α) : α :=
  let fieldRateEst := A.div (A.lit 1000000) (A.mul periodEst vTotal)
  A.div periodEst (A.div vFieldRate fieldRateEst)

/-! ## Horizontal steps -/

/-- `LEFT` of R288. -/
def gtfLeft {α : Type} (A : Arithmetic α) (margins : Bool) (hRnd : α) : α :=
  let gran := A.lit gtfCellGran
  if margins then A.mul (A.round (A.div (A.div (A.mul hRnd (A.lit gtfMarginPer)) (A.lit 100)) gran)) gran
  else A.lit 0

/-- `IDEAL_DUTY` of R289, from the four tunable constants. -/
def gtfIdealDuty {α : Type} (A : Arithmetic α) (a : GtfGenArgs) (period : α) : α :=
  let j := A.lit a.j
  let cPrime := A.add (A.div (A.mul (A.sub (A.lit a.c) j) (A.lit a.k)) (A.lit 256)) j
  let mPrime := A.mul (A.div (A.lit a.k) (A.lit 256)) (A.lit a.m)
  A.sub cPrime (A.div (A.mul mPrime period) (A.lit 1000))

/-- `H_BLANK` of R289, for a duty cycle other than 100. -/
def gtfHBlank {α : Type} (A : Arithmetic α) (tap duty : α) : α :=
  let gran := A.mul (A.lit 2) (A.lit gtfCellGran)
  A.mul (A.round (A.div (A.div (A.mul tap duty) (A.sub (A.lit 100) duty)) gran)) gran

/-- `H_SYNC` of R290. -/
def gtfHSync {α : Type} (A : Arithmetic α) (hTotal : α) : α :=
  A.mul (A.round (A.div (A.mul (A.div (A.lit gtfHSyncPer) (A.lit 100)) hTotal) (A.lit gtfCellGran)))
    (A.lit gtfCellGran)

/-! ## The operation -/

/-- R288 to R291, given the vertical steps and the refined period. -/
def gtfHorizontal {α : Type} (A : Arithmetic α) (a : GtfGenArgs) (u : GtfSetup α) (vSyncBp vTotal period : α) :
    Except Status TimingParams :=
  let left := gtfLeft A a.margins u.hRnd
  let tap := A.add u.hRnd (A.mul (A.lit 2) left)
  let duty := gtfIdealDuty A a period
  if A.eq duty (A.lit 100) then raise .domainError
  else
    let hBlank := gtfHBlank A tap duty
    let hTotal := A.add tap hBlank
    let hSync := gtfHSync A hTotal
    let half := A.div hBlank (A.lit 2)
    let fieldRateOut := A.div (A.lit 1000000) (A.mul period vTotal)
    .ok
      { hActive := A.out .hActive u.hRnd
        hBorder := A.out .hBorder left
        hFrontPorch := A.out .hFrontPorch (A.sub half hSync)
        hSync := A.out .hSync hSync
        hBackPorch := A.out .hBackPorch half
        hBlank := A.out .hBlank hBlank
        hTotal := A.out .hTotal hTotal
        vActive := A.out .vActive u.vRnd
        vBorder := A.out .vBorder u.top
        vFrontPorch := A.out .vFrontPorch (A.lit gtfMinPorch)
        vSync := A.out .vSync (A.lit gtfVSyncRqd)
        vBackPorch := A.out .vBackPorch (A.sub vSyncBp (A.lit gtfVSyncRqd))
        vBlank := A.out .vBlank (A.add vSyncBp (A.lit gtfMinPorch))
        vTotal := A.out .vTotal vTotal
        pixelClock := A.out .pixelClock (A.div hTotal period)
        hRate := A.out .hRate (A.div (A.lit 1000) period)
        vFieldRate := A.out .vFieldRate fieldRateOut
        vRate := A.out .vRate (if a.interlaced then A.div fieldRateOut (A.lit 2) else fieldRateOut)
        interlaced := a.interlaced
        hSyncPositive := false
        vSyncPositive := true }

/-- R280: R282, the vertical steps R283 to R287, then the horizontal ones. -/
def gtfGenerateIn {α : Type} (A : Arithmetic α) (a : GtfGenArgs) : Except Status TimingParams :=
  if A.le (A.lit a.refresh) (A.lit 0) then raise .domainError
  else
    let u := gtfSetup A a
    let periodEst := gtfPeriodEst A u
    if A.le periodEst (A.lit 0) then raise .domainError
    else
      let vSyncBp := gtfVSyncBp A periodEst
      let vTotal := gtfVTotal A u vSyncBp
      gtfHorizontal A a u vSyncBp vTotal (gtfPeriod A u.vFieldRate periodEst vTotal)

/-- GTF_GEN in the arithmetic of the parameter `GEN_ARITH` (R6, R293). -/
def gtfGenerate (cfg : Config) (a : GtfGenArgs) : Except Status TimingParams :=
  match cfg.genArith with
  | .exact => gtfGenerateIn exactArithmetic a
  | .binary64 => gtfGenerateIn (binary64Arithmetic (.gtfGenIn a)) a

def gtfGen (cfg : Config) (o : Operand) : Answer :=
  match gtfGenOperand o with
  | .error s => raise s
  | .ok a =>
    match checkDimensions cfg a.hActive a.vActive with
    | .error s => raise s
    | .ok () => (gtfGenerate cfg a).map .timing

/-- GTF_GEN, R280. -/
def execGtfGen (o : Operand) (s : State) : Host.Outcome State Fault Refusal :=
  respond (gtfGen unitConfig o) s

end Sys2Proof.Machine
end

