-- ==== Sys2Proof/Machine/DtdCodec.lean ====
section
/-! DEFINITION. The Detailed Timing Descriptor codec (spec/42_dtd.md R170 to R172, layout spec/30_encoding.md R100 to R102). -/

namespace Sys2Proof.Machine

/-- R170: a slot is a timing exactly when its pixel clock is not zero. -/
def isTiming (b : Bytes 18) : Bool :=
  b[0] != 0 || b[1] != 0

/-- R102: the sync descriptor of byte 17. -/
def syncDecode (f : Byte) : Sync :=
  if bit f 4 = false then .analog (bit f 3) (bit f 2) (!(bit f 1))
  else if bit f 3 = false then .digital true (some (bit f 2)) none (bit f 1)
  else .digital false none (some (bit f 2)) (bit f 1)

/-- The fields of R171, for a slot that is a timing. -/
def dtdDecode (b : Bytes 18) : Dtd :=
  { pixelClock := b[1] ++ b[0]
    hActive := field b[4] 7 4 ++ b[2]
    hBlank := field b[4] 3 0 ++ b[3]
    vActive := field b[7] 7 4 ++ b[5]
    vBlank := field b[7] 3 0 ++ b[6]
    hFrontPorch := field b[11] 7 6 ++ b[8]
    hSyncWidth := field b[11] 5 4 ++ b[9]
    vFrontPorch := field b[11] 3 2 ++ field b[10] 7 4
    vSyncWidth := field b[11] 1 0 ++ field b[10] 3 0
    hSizeMm := field b[14] 7 4 ++ b[12]
    vSizeMm := field b[14] 3 0 ++ b[13]
    hBorder := b[15]
    vBorder := b[16]
    interlaced := bit b[17] 7
    stereo := field b[17] 6 5 ++ field b[17] 0 0
    sync := syncDecode b[17] }

/-- Bits 4 to 1 of byte 17 (R102, R172), `FAIL_MALFORMED` where a digital sync breaks the nullability of R32. -/
def syncEncode (y : Sync) : Except Status (BitVec 4) :=
  match y with
  | .analog bipolar serrations syncOnGreen =>
    .ok (flag false ++ flag bipolar ++ flag serrations ++ flag (!syncOnGreen))
  | .digital true (some x) none hPos => .ok (flag true ++ flag false ++ flag x ++ flag hPos)
  | .digital false none (some y) hPos => .ok (flag true ++ flag true ++ flag y ++ flag hPos)
  | .digital _ _ _ _ => raise .failMalformed

/-- The bytes of R172, with bits 4 to 1 of byte 17 given. -/
def dtdBytes (d : Dtd) (syncBits : BitVec 4) : List Byte :=
  [ field d.pixelClock 7 0,
    field d.pixelClock 15 8,
    field d.hActive 7 0,
    field d.hBlank 7 0,
    field d.hActive 11 8 ++ field d.hBlank 11 8,
    field d.vActive 7 0,
    field d.vBlank 7 0,
    field d.vActive 11 8 ++ field d.vBlank 11 8,
    field d.hFrontPorch 7 0,
    field d.hSyncWidth 7 0,
    field d.vFrontPorch 3 0 ++ field d.vSyncWidth 3 0,
    field d.hFrontPorch 9 8 ++ field d.hSyncWidth 9 8 ++ field d.vFrontPorch 5 4 ++ field d.vSyncWidth 5 4,
    field d.hSizeMm 7 0,
    field d.vSizeMm 7 0,
    field d.hSizeMm 11 8 ++ field d.vSizeMm 11 8,
    d.hBorder,
    d.vBorder,
    flag d.interlaced ++ field d.stereo 2 1 ++ syncBits ++ field d.stereo 0 0 ]

/-- R172: the pixel clock is checked first, then the sync. -/
def dtdEncode (d : Dtd) : Except Status (List Byte) :=
  if d.pixelClock = 0 then raise .failMalformed
  else
    match syncEncode d.sync with
    | .error s => raise s
    | .ok syncBits => .ok (dtdBytes d syncBits)

/-- R171. -/
def dtdDec (o : Operand) : Answer :=
  match bytesOperandOf 18 o with
  | .error s => raise s
  | .ok b => if isTiming b then .ok (.dtd (dtdDecode b)) else raise .notThisType

/-- R172. -/
def dtdEnc (o : Operand) : Answer :=
  match dtdOperand o with
  | .error s => raise s
  | .ok d => (dtdEncode d).map .bytes

/-- DTD_DEC, R171. -/
def execDtdDec (o : Operand) (s : State) : Host.Outcome State Fault Refusal :=
  respond (dtdDec o) s

/-- DTD_ENC, R172. -/
def execDtdEnc (o : Operand) (s : State) : Host.Outcome State Fault Refusal :=
  respond (dtdEnc o) s

end Sys2Proof.Machine
end

