-- ==== Sys2Proof/Machine/Registry.lean ====
section
/-! DEFINITION. The Descriptor Registry (spec/43_descriptors.md R190 to R210, layouts spec/30_encoding.md R105 to R117). -/

namespace Sys2Proof.Machine

/-! ## Helpers -/

/-- `hdr` of R191. -/
def header (b : Bytes 18) (tag : Byte) (byte4Zero : Bool) : Bool :=
  b[0] == 0 && b[1] == 0 && b[2] == 0 && b[3] == tag && (!byte4Zero || b[4] == 0)

/-- The 13 payload bytes, bytes 5 to 17 of a slot (R105). -/
def payload (b : Bytes 18) : List Byte :=
  b.toList.drop 5

/-- `str_dec` of R192: the content before the first 0x0A, when every byte after it is 0x20; all of a payload with no
0x0A. -/
def strDec (p : List Byte) : Option (List Byte) :=
  match p.dropWhile (· != 0x0A) with
  | [] => some p
  | _ :: padding => if padding.all (· == 0x20) then some (p.takeWhile (· != 0x0A)) else none

/-- `str_enc` of R192. -/
def strEnc (c : List Byte) : Except Status (List Byte) :=
  if c.length > 13 ∨ 0x0A ∈ c then raise .failMalformed
  else if c.length = 13 then .ok c
  else .ok (c ++ [0x0A] ++ List.replicate (12 - c.length) 0x20)

/-- The decode shape of the three string variants (R195, R196). -/
def stringDecode (tag : Byte) (variant : List Byte → Descriptor) (b : Bytes 18) : Except Status Descriptor :=
  if header b tag true then
    match strDec (payload b) with
    | none => raise .notThisType
    | some s => .ok (variant s)
  else raise .notThisType

/-- The encode shape of the three string variants (R195, R197), for content already taken from its variant. -/
def stringEncode (tag : Byte) (s : List Byte) : Except Status (List Byte) :=
  match strEnc s with
  | .error e => raise e
  | .ok p => .ok ([0x00, 0x00, 0x00, tag, 0x00] ++ p)

/-! ## Decoders: a descriptor of the variant, or `NOT_THIS_TYPE` (R190) -/

/-- R193. -/
def dummyDecode (b : Bytes 18) : Except Status Descriptor :=
  if header b 0x10 true then
    if (payload b).all (· == 0) then .ok .dummy else raise .notThisType
  else raise .notThisType

/-- R196. -/
def serialDecode (b : Bytes 18) : Except Status Descriptor :=
  stringDecode 0xFF .serialNumber b

/-- R198. -/
def alnumDecode (b : Bytes 18) : Except Status Descriptor :=
  stringDecode 0xFE .alphanumericString b

/-- R200. -/
def nameDecode (b : Bytes 18) : Except Status Descriptor :=
  stringDecode 0xFC .productName b

/-- The nested variant of R202 and R203, selected by byte 10 (R112 to R115). -/
def drlTimingDecode (b : Bytes 18) : DrlTiming :=
  if b[10] = 0x02 then
    .secondaryGtf
      { rsv := b[11], hBreak2 := b[12], c2 := b[13], m := b[15] ++ b[14], k := b[16], j2 := b[17] }
  else if b[10] = 0x04 then
    .cvtSupport
      { version := b[11]
        pclkOffset := field b[12] 7 2
        maxActive8 := field b[12] 1 0 ++ b[13]
        aspects := field b[14] 7 3
        aspectsRsv := field b[14] 2 0
        prefAspect := field b[15] 7 5
        rbSupported := bit b[15] 4
        stdSupported := bit b[15] 3
        blankRsv := field b[15] 2 0
        scaling := field b[16] 7 4
        scalingRsv := field b[16] 3 0
        prefVRate := b[17] }
  else .plain b[10] #v[b[11], b[12], b[13], b[14], b[15], b[16], b[17]]

/-- R203; the header check leaves byte 4 free, since it holds flags here. -/
def rangeDecode (b : Bytes 18) : Except Status Descriptor :=
  if header b 0xFD false then
    .ok (.displayRangeLimits
      { vMin := b[5], vMax := b[6], hMin := b[7], hMax := b[8]
        vMinPlus255 := bit b[4] 0, vMaxPlus255 := bit b[4] 1
        hMinPlus255 := bit b[4] 2, hMaxPlus255 := bit b[4] 3
        flagsRsv := field b[4] 7 4
        maxPclk10 := b[9]
        timing := drlTimingDecode b })
  else raise .notThisType

/-- R205, R206. -/
def et3Decode (b : Bytes 18) : Except Status Descriptor :=
  if header b 0xF7 true then
    if b[5] = 0x0A then
      .ok (.establishedTimingsIII
        { bitmap := #v[b[6], b[7], b[8], b[9], b[10], b[11]]
          rsv := #v[b[12], b[13], b[14], b[15], b[16], b[17]] })
    else raise .notThisType
  else raise .notThisType

/-! ## Encoders: the bytes, `DOES_NOT_APPLY` for another variant, `FAIL_MALFORMED` for bad fields (R190) -/

/-- R194. -/
def dummyEncode (d : Descriptor) : Except Status (List Byte) :=
  match d with
  | .dummy => .ok ([0x00, 0x00, 0x00, 0x10] ++ List.replicate 14 0x00)
  | _ => raise .doesNotApply

/-- R197. -/
def serialEncode (d : Descriptor) : Except Status (List Byte) :=
  match d with
  | .serialNumber s => stringEncode 0xFF s
  | _ => raise .doesNotApply

/-- R199. -/
def alnumEncode (d : Descriptor) : Except Status (List Byte) :=
  match d with
  | .alphanumericString s => stringEncode 0xFE s
  | _ => raise .doesNotApply

/-- R201. -/
def nameEncode (d : Descriptor) : Except Status (List Byte) :=
  match d with
  | .productName s => stringEncode 0xFC s
  | _ => raise .doesNotApply

/-- Bytes 10 to 17 of R204. -/
def drlTimingEncode (t : DrlTiming) : Except Status (List Byte) :=
  match t with
  | .plain selector raw =>
    if selector = 0x02 ∨ selector = 0x04 then raise .failMalformed else .ok (selector :: raw.toList)
  | .secondaryGtf g => .ok [0x02, g.rsv, g.hBreak2, g.c2, field g.m 7 0, field g.m 15 8, g.k, g.j2]
  | .cvtSupport c =>
    .ok
      [ 0x04,
        c.version,
        c.pclkOffset ++ field c.maxActive8 9 8,
        field c.maxActive8 7 0,
        c.aspects ++ c.aspectsRsv,
        c.prefAspect ++ flag c.rbSupported ++ flag c.stdSupported ++ c.blankRsv,
        c.scaling ++ c.scalingRsv,
        c.prefVRate ]

/-- Bytes 0 to 9 of R204. -/
def drlHead (r : Drl) : List Byte :=
  [ 0x00, 0x00, 0x00, 0xFD,
    r.flagsRsv ++ flag r.hMaxPlus255 ++ flag r.hMinPlus255 ++ flag r.vMaxPlus255 ++ flag r.vMinPlus255,
    r.vMin, r.vMax, r.hMin, r.hMax, r.maxPclk10 ]

/-- R204. -/
def rangeEncode (d : Descriptor) : Except Status (List Byte) :=
  match d with
  | .displayRangeLimits r =>
    match drlTimingEncode r.timing with
    | .error s => raise s
    | .ok rest => .ok (drlHead r ++ rest)
  | _ => raise .doesNotApply

/-- R207. -/
def et3Encode (d : Descriptor) : Except Status (List Byte) :=
  match d with
  | .establishedTimingsIII e => .ok ([0x00, 0x00, 0x00, 0xF7, 0x00, 0x0A] ++ e.bitmap.toList ++ e.rsv.toList)
  | _ => raise .doesNotApply

/-! ## The registry as a table -/

/-- The decoders in the order of R210. -/
def registryDecoders : List (Bytes 18 → Except Status Descriptor) :=
  [dummyDecode, serialDecode, alnumDecode, rangeDecode, nameDecode, et3Decode]

/-- `reg_decode` of R210: the first decoder that gives `OK`. -/
def firstAccepting (ds : List (Bytes 18 → Except Status Descriptor)) (b : Bytes 18) : Option Descriptor :=
  match ds with
  | [] => none
  | f :: rest =>
    match f b with
    | .ok d => some d
    | .error _ => firstAccepting rest b

def regDecode (b : Bytes 18) : Option Descriptor :=
  firstAccepting registryDecoders b

/-! ## The operations -/

/-- The shape every REG_DEC shares: an 18-byte operand, then the variant's decoder. -/
def regDec (decoder : Bytes 18 → Except Status Descriptor) (o : Operand) : Answer :=
  match bytesOperandOf 18 o with
  | .error s => raise s
  | .ok b => (decoder b).map .desc

/-- The shape every REG_ENC shares: a descriptor operand, then the variant's encoder. -/
def regEnc (encoder : Descriptor → Except Status (List Byte)) (o : Operand) : Answer :=
  match descOperand o with
  | .error s => raise s
  | .ok d => (encoder d).map .bytes

/-- REG_DEC_DUMMY, R193. -/
def execRegDecDummy (o : Operand) (s : State) : Host.Outcome State Fault Refusal :=
  respond (regDec dummyDecode o) s

/-- REG_ENC_DUMMY, R194. -/
def execRegEncDummy (o : Operand) (s : State) : Host.Outcome State Fault Refusal :=
  respond (regEnc dummyEncode o) s

/-- REG_DEC_SERIAL, R196. -/
def execRegDecSerial (o : Operand) (s : State) : Host.Outcome State Fault Refusal :=
  respond (regDec serialDecode o) s

/-- REG_ENC_SERIAL, R197. -/
def execRegEncSerial (o : Operand) (s : State) : Host.Outcome State Fault Refusal :=
  respond (regEnc serialEncode o) s

/-- REG_DEC_ALNUM, R198. -/
def execRegDecAlnum (o : Operand) (s : State) : Host.Outcome State Fault Refusal :=
  respond (regDec alnumDecode o) s

/-- REG_ENC_ALNUM, R199. -/
def execRegEncAlnum (o : Operand) (s : State) : Host.Outcome State Fault Refusal :=
  respond (regEnc alnumEncode o) s

/-- REG_DEC_RANGE, R203. -/
def execRegDecRange (o : Operand) (s : State) : Host.Outcome State Fault Refusal :=
  respond (regDec rangeDecode o) s

/-- REG_ENC_RANGE, R204. -/
def execRegEncRange (o : Operand) (s : State) : Host.Outcome State Fault Refusal :=
  respond (regEnc rangeEncode o) s

/-- REG_DEC_NAME, R200. -/
def execRegDecName (o : Operand) (s : State) : Host.Outcome State Fault Refusal :=
  respond (regDec nameDecode o) s

/-- REG_ENC_NAME, R201. -/
def execRegEncName (o : Operand) (s : State) : Host.Outcome State Fault Refusal :=
  respond (regEnc nameEncode o) s

/-- REG_DEC_ET3, R206. -/
def execRegDecEt3 (o : Operand) (s : State) : Host.Outcome State Fault Refusal :=
  respond (regDec et3Decode o) s

/-- REG_ENC_ET3, R207. -/
def execRegEncEt3 (o : Operand) (s : State) : Host.Outcome State Fault Refusal :=
  respond (regEnc et3Encode o) s

end Sys2Proof.Machine
end

