-- ==== Sys2Proof/Machine/Slot.lean ====
section
/-! DEFINITION. The slot dispatcher (spec/43_descriptors.md R211, R212, classes spec/30_encoding.md R104). -/

namespace Sys2Proof.Machine

/-- R211: the DTD first, then the registry, then the opaque fallback. -/
def slotDecode (b : Bytes 18) : Descriptor :=
  if isTiming b then .detailedTiming (dtdDecode b)
  else if b[2] ≠ 0x00 then .opaqueSlot b
  else
    match regDecode b with
    | some d => d
    | none => .opaqueSlot b

/-- R212: the encoder is chosen by the variant. -/
def slotEncode (d : Descriptor) : Except Status (List Byte) :=
  match d with
  | .detailedTiming t => dtdEncode t
  | .opaqueSlot raw => .ok raw.toList
  | .dummy => dummyEncode d
  | .serialNumber _ => serialEncode d
  | .alphanumericString _ => alnumEncode d
  | .displayRangeLimits _ => rangeEncode d
  | .productName _ => nameEncode d
  | .establishedTimingsIII _ => et3Encode d

def slotDec (o : Operand) : Answer :=
  match bytesOperandOf 18 o with
  | .error s => raise s
  | .ok b => .ok (.desc (slotDecode b))

def slotEnc (o : Operand) : Answer :=
  match descOperand o with
  | .error s => raise s
  | .ok d => (slotEncode d).map .bytes

/-- SLOT_DEC, R211. -/
def execSlotDec (o : Operand) (s : State) : Host.Outcome State Fault Refusal :=
  respond (slotDec o) s

/-- SLOT_ENC, R212. -/
def execSlotEnc (o : Operand) (s : State) : Host.Outcome State Fault Refusal :=
  respond (slotEnc o) s

end Sys2Proof.Machine
end

