-- ==== Sys2Proof/Machine/Dispatch.lean ====
section
/-! DEFINITION. The dispatch of an instruction to its meaning, one arm per row of spec/opcode_table.json. -/

namespace Sys2Proof.Machine

def exec (i : Instr) (s : State) : Host.Outcome State Fault Refusal :=
  match i with
  | .chkCompute o => Sys2Proof.Machine.execChkCompute o s
  | .chkValidate o => Sys2Proof.Machine.execChkValidate o s
  | .chkSeal o => Sys2Proof.Machine.execChkSeal o s
  | .stdDec o => Sys2Proof.Machine.execStdDec o s
  | .stdEnc o => Sys2Proof.Machine.execStdEnc o s
  | .cvt3Dec o => Sys2Proof.Machine.execCvt3Dec o s
  | .cvt3Enc o => Sys2Proof.Machine.execCvt3Enc o s
  | .dtdDec o => Sys2Proof.Machine.execDtdDec o s
  | .dtdEnc o => Sys2Proof.Machine.execDtdEnc o s
  | .slotDec o => Sys2Proof.Machine.execSlotDec o s
  | .slotEnc o => Sys2Proof.Machine.execSlotEnc o s
  | .regDecDummy o => Sys2Proof.Machine.execRegDecDummy o s
  | .regEncDummy o => Sys2Proof.Machine.execRegEncDummy o s
  | .regDecSerial o => Sys2Proof.Machine.execRegDecSerial o s
  | .regEncSerial o => Sys2Proof.Machine.execRegEncSerial o s
  | .regDecAlnum o => Sys2Proof.Machine.execRegDecAlnum o s
  | .regEncAlnum o => Sys2Proof.Machine.execRegEncAlnum o s
  | .regDecRange o => Sys2Proof.Machine.execRegDecRange o s
  | .regEncRange o => Sys2Proof.Machine.execRegEncRange o s
  | .regDecName o => Sys2Proof.Machine.execRegDecName o s
  | .regEncName o => Sys2Proof.Machine.execRegEncName o s
  | .regDecEt3 o => Sys2Proof.Machine.execRegDecEt3 o s
  | .regEncEt3 o => Sys2Proof.Machine.execRegEncEt3 o s
  | .cvtGen o => Sys2Proof.Machine.execCvtGen o s
  | .gtfGen o => Sys2Proof.Machine.execGtfGen o s

end Sys2Proof.Machine
end

