-- ==== Sys2Proof/Machine/Fetch.lean ====
section
/-! DEFINITION. Taking the request in flight: what step reads and what it leaves behind (spec/10_state.md R21,
spec/70_reset_and_hazards.md R343). -/

namespace Sys2Proof.Machine

/-- The request in flight, and the state with that request taken; `none` when no request is issued. -/
def takeRequest (s : State) : Option (Request × State) :=
  match s.pending with
  | [] => none
  | r :: rest => some (r, { s with pending := rest })

/-- One whole transaction (R66, R343): decode the op code (R82: `ILLEGAL_OP` for one outside the map), then run the
instruction. -/
def serve (r : Request) (s : State) : Host.Outcome State Fault Refusal :=
  match decode r with
  | .error e => respond (raise e) s
  | .ok i => exec i s

/-- A state with `r` put in flight, ahead of the requests issued before. -/
def putInFlight (r : Request) (s : State) : State :=
  { s with pending := r :: s.pending }

end Sys2Proof.Machine
end

