-- ==== Sys2Proof/Machine/Step.lean ====
section
/-! DEFINITION. One step of the machine: one request and its response (spec/20_memory.md R66, spec/70_reset_and_hazards.md R343). -/

namespace Sys2Proof.Machine

/-- The unit completes the request in flight and gives its response. With no request issued it is idle (R326, log
entry 2): the step changes nothing. -/
def step (s : State) : Host.Outcome State Fault Refusal :=
  match takeRequest s with
  | none => .next s
  | some (r, t) => serve r t

/-- `s` with the request of a table word in flight (log entry 3). -/
def State.withFetchWord (s : State) (nbits w : Nat) : State :=
  putInFlight (tableRequest nbits w) s

end Sys2Proof.Machine
end

