-- ==== Sys2Proof/Machine/Derived.lean ====
section
/-! DEFINITION. What the record fields stand for: the derived values of spec/10_state.md R36 and spec/42_dtd.md R175, the readings of
the codes the unit carries raw (R29, R30, spec/30_encoding.md R103, R118), the block positions of spec/20_memory.md R69, and the
host's mapping of a generator result to a DTD (spec/42_dtd.md R176). The spec says that no operation computes any of these:
no meaning calls a definition of this file. -/

namespace Sys2Proof.Machine

/-! ## Display range limits, R36 -/

def plus255 (v : BitVec 8) (offset : Bool) : Nat :=
  v.toNat + 255 * (if offset then 1 else 0)

def vMinHz (r : Drl) : Nat := plus255 r.vMin r.vMinPlus255
def vMaxHz (r : Drl) : Nat := plus255 r.vMax r.vMaxPlus255
def hMinKhz (r : Drl) : Nat := plus255 r.hMin r.hMinPlus255
def hMaxKhz (r : Drl) : Nat := plus255 r.hMax r.hMaxPlus255
def maxPclkMhz (r : Drl) : Nat := 10 * r.maxPclk10.toNat

/-- Only for a `CvtSupport` timing. -/
def extMaxPclkMhz (r : Drl) : Option ℚ :=
  match r.timing with
  | .cvtSupport c => some (10 * (r.maxPclk10.toNat : ℚ) - (c.pclkOffset.toNat : ℚ) / 4)
  | .plain _ _ => none
  | .secondaryGtf _ => none

/-- Only for a `CvtSupport` timing; 0 is "no limit". -/
def maxActivePx (r : Drl) : Option Nat :=
  match r.timing with
  | .cvtSupport c => some (8 * c.maxActive8.toNat)
  | .plain _ _ => none
  | .secondaryGtf _ => none

/-- `h_rate_break_khz`, `C`, `M`, `K` and `J` of a secondary GTF curve. -/
structure GtfCurve where
  hRateBreakKhz : ℚ
  c : ℚ
  m : ℚ
  k : ℚ
  j : ℚ
  deriving DecidableEq, Repr

def gtfCurve (g : SecondaryGtf) : GtfCurve :=
  { hRateBreakKhz := 2 * (g.hBreak2.toNat : ℚ), c := (g.c2.toNat : ℚ) / 2, m := (g.m.toNat : ℚ)
    k := (g.k.toNat : ℚ), j := (g.j2.toNat : ℚ) / 2 }

/-! ## Codes the unit carries raw -/

/-- R29: the active width in pixels. -/
def stdActivePixels (t : StdTiming) : Nat := 8 * t.hActive8

/-- An aspect ratio `num : den`. -/
structure AspectRatio where
  num : Nat
  den : Nat
  deriving DecidableEq, Repr

/-- R29, by EDID 1.4. -/
def stdAspect (t : StdTiming) : AspectRatio :=
  match t.aspect.toNat with
  | 0 => { num := 16, den := 10 }
  | 1 => { num := 4, den := 3 }
  | 2 => { num := 5, den := 4 }
  | _ => { num := 16, den := 9 }

/-- R30. -/
def cvtCodeAspect (c : CvtCode) : AspectRatio :=
  match c.aspect.toNat with
  | 0 => { num := 4, den := 3 }
  | 1 => { num := 16, den := 9 }
  | 2 => { num := 16, den := 10 }
  | _ => { num := 15, den := 9 }

/-- R30: the preferred rate in Hz. -/
def cvtCodePrefRateHz (c : CvtCode) : Nat :=
  match c.prefRate.toNat with
  | 0 => 50
  | 1 => 60
  | 2 => 75
  | _ => 85

/-- R103: the meanings of the stereo code. -/
inductive StereoMode where
  | none
  | fieldSequentialRightOnSync
  | fieldSequentialLeftOnSync
  | twoWayInterleavedRightEven
  | twoWayInterleavedLeftEven
  | fourWayInterleaved
  | sideBySideInterleaved
  deriving DecidableEq, Repr

/-- R103. -/
def stereoMode (code : BitVec 3) : StereoMode :=
  match code.toNat with
  | 0 => .none
  | 1 => .none
  | 2 => .fieldSequentialRightOnSync
  | 3 => .twoWayInterleavedRightEven
  | 4 => .fieldSequentialLeftOnSync
  | 5 => .twoWayInterleavedLeftEven
  | 6 => .fourWayInterleaved
  | _ => .sideBySideInterleaved

/-- R118: the flag names of the Established Timings III bitmap, slot bytes 6 to 11, bit 7 first. -/
def et3FlagNames : List (List String) :=
  [["640x350@85", "640x400@85", "720x400@85", "640x480@85", "848x480@60", "800x600@85", "1024x768@85", "1152x864@75"],
   ["1280x768@60 RB", "1280x768@60", "1280x768@75", "1280x768@85", "1280x960@60", "1280x960@85", "1280x1024@60", "1280x1024@85"],
   ["1360x768@60", "1440x900@60 RB", "1440x900@60", "1440x900@75", "1440x900@85", "1400x1050@60 RB", "1400x1050@60", "1400x1050@75"],
   ["1400x1050@85", "1680x1050@60 RB", "1680x1050@60", "1680x1050@75", "1680x1050@85", "1600x1200@60", "1600x1200@65", "1600x1200@70"],
   ["1600x1200@75", "1600x1200@85", "1792x1344@60", "1792x1344@75", "1856x1392@60", "1856x1392@75", "1920x1200@60 RB", "1920x1200@60"],
   ["1920x1200@75", "1920x1200@85", "1920x1440@60", "1920x1440@75", "reserved", "reserved", "reserved", "reserved"]]

/-- R118: the names of the flags set in a bitmap, in the table's order. -/
def et3Modes (e : Et3) : List String :=
  ((e.bitmap.toList.zip et3FlagNames).map fun p =>
    ((List.range 8).zip p.2).filterMap fun q => if bit p.1 (7 - q.1) then some q.2 else none).flatten

/-! ## Detailed timings, R175 -/

def dtdClockMhz (d : Dtd) : ℚ := (d.pixelClock.toNat : ℚ) / 100
def dtdHTotal (d : Dtd) : Nat := d.hActive.toNat + d.hBlank.toNat
def dtdVTotal (d : Dtd) : Nat := d.vActive.toNat + d.vBlank.toNat

/-- Negative for fields that make no sensible timing, which the codec does not check (R171). -/
def dtdHBackPorch (d : Dtd) : ℤ := (d.hBlank.toNat : ℤ) - d.hFrontPorch.toNat - d.hSyncWidth.toNat
def dtdVBackPorch (d : Dtd) : ℤ := (d.vBlank.toNat : ℤ) - d.vFrontPorch.toNat - d.vSyncWidth.toNat

/-! ## Block positions, R69 -/

def headerBytes : List Byte := [0x00, 0xFF, 0xFF, 0xFF, 0xFF, 0xFF, 0xFF, 0x00]
def checksumOffset : Nat := 127
def extensionCountOffset : Nat := 0x7E
/-- The eight Standard Timings, two bytes each. -/
def stdTimingOffset (k : Fin 8) : Nat := 0x26 + 2 * k.val
/-- The four descriptor slots, 18 bytes each; the first is the preferred timing. -/
def slotOffset (k : Fin 4) : Nat := 0x36 + 18 * k.val

/-! ## The host's mapping of a generator result, R176 -/

/-- A rational as an unsigned field of width `w`; `none` when it is no integer or does not fit (log entry 9). -/
def rationalField (w : Nat) (x : ℚ) : Option (BitVec w) :=
  if x.den = 1 ∧ 0 ≤ x.num ∧ x.num.toNat < 2 ^ w then some (BitVec.ofNat w x.num.toNat) else none

/-- R176, host code: the unit performs no such mapping. -/
def dtdOfTiming (p : TimingParams) : Option Dtd := do
  let pixelClock ← rationalField 16 (roundQ (100 * p.pixelClock))
  let hActive ← rationalField 12 p.hActive
  let hBlank ← rationalField 12 p.hBlank
  let vActive ← rationalField 12 p.vActive
  let vBlank ← rationalField 12 p.vBlank
  let hFrontPorch ← rationalField 10 p.hFrontPorch
  let hSyncWidth ← rationalField 10 p.hSync
  let vFrontPorch ← rationalField 6 p.vFrontPorch
  let vSyncWidth ← rationalField 6 p.vSync
  let hBorder ← rationalField 8 p.hBorder
  let vBorder ← rationalField 8 p.vBorder
  some
    { pixelClock := pixelClock, hActive := hActive, hBlank := hBlank, vActive := vActive, vBlank := vBlank
      hFrontPorch := hFrontPorch, hSyncWidth := hSyncWidth, vFrontPorch := vFrontPorch, vSyncWidth := vSyncWidth
      hSizeMm := 0, vSizeMm := 0, hBorder := hBorder, vBorder := vBorder
      interlaced := p.interlaced, stereo := 0
      sync := .digital false none (some p.vSyncPositive) p.hSyncPositive }

end Sys2Proof.Machine
end

