-- ==== Sys2Proof/Safety.lean ====
section
/-! DEFINITION. The terms claims use: the answer to a request as a function of the request alone (spec/10_state.md R20, R22), what a
well-formed response is (R21, R29 to R35, R39, R314), and the invariant of the machine. -/

namespace Sys2Proof.Machine

/-- The answer of each operation, for any setting of the parameters. -/
def answerOf (cfg : Config) (i : Instr) : Answer :=
  match i with
  | .chkCompute o => chkCompute cfg o
  | .chkValidate o => chkValidate o
  | .chkSeal o => chkSeal o
  | .stdDec o => stdDec cfg o
  | .stdEnc o => stdEnc cfg o
  | .cvt3Dec o => cvt3Dec o
  | .cvt3Enc o => cvt3Enc o
  | .dtdDec o => dtdDec o
  | .dtdEnc o => dtdEnc o
  | .slotDec o => slotDec o
  | .slotEnc o => slotEnc o
  | .regDecDummy o => regDec dummyDecode o
  | .regEncDummy o => regEnc dummyEncode o
  | .regDecSerial o => regDec serialDecode o
  | .regEncSerial o => regEnc serialEncode o
  | .regDecAlnum o => regDec alnumDecode o
  | .regEncAlnum o => regEnc alnumEncode o
  | .regDecRange o => regDec rangeDecode o
  | .regEncRange o => regEnc rangeEncode o
  | .regDecName o => regDec nameDecode o
  | .regEncName o => regEnc nameEncode o
  | .regDecEt3 o => regDec et3Decode o
  | .regEncEt3 o => regEnc et3Encode o
  | .cvtGen o => cvtGen cfg o
  | .gtfGen o => gtfGen cfg o

/-- R20: the response to a request as a function of that request. -/
def responseTo (r : Request) : Response :=
  match decode r with
  | .error e => responseOf (raise e)
  | .ok i => responseOf (answerOf unitConfig i)

/-- The state after one more response: the terms in which statements give an instruction's whole effect. The requests
still pending and the responses already given are as before. -/
def withResponse (s : State) (status : Status) (result : Option Result) : State :=
  { pending := s.pending, responses := s.responses ++ [{ status := status, result := result }] }

/-- The op code runs the instruction, whatever the operand (R81). -/
def opcodeRuns (op : BitVec 8) (instr : Operand → Instr) : Prop :=
  ∀ o, decode { op := op, operand := o } = .ok (instr o)

/-- R83: every operand of another kind gives `FAIL_MALFORMED`, and changes nothing else. -/
def refusesOtherKinds (kind : OperandKind) (instr : Operand → Instr) : Prop :=
  ∀ o s, o.kind ≠ kind → exec (instr o) s = .next (withResponse s .failMalformed none)

/-- R83: every byte string of another length gives `FAIL_LENGTH`, and changes nothing else. -/
def refusesOtherLengths (n : Nat) (instr : Operand → Instr) : Prop :=
  ∀ b s, b.length ≠ n → exec (instr (.bytes b)) s = .next (withResponse s .failLength none)

/-! ## Well-formed results -/

/-- The ranges R29 gives a decoded Standard Timing, for the width of this hardware. -/
def stdTimingInRange (t : StdTiming) : Prop :=
  31 ≤ t.hActive8 ∧ t.hActive8 ≤ 286 ∧ 60 ≤ t.refresh ∧ t.refresh ≤ 91

/-- The relations R255 and R291 state between the fields of a timing, and R39's "every pixel and line field but
`v_total` is an integer", which is given here for the width and the blank. -/
def timingConsistent (p : TimingParams) : Prop :=
  (∃ n : ℕ, p.hActive = 8 * n) ∧
  (∃ n : ℤ, p.hBlank = 16 * n) ∧
  p.hBlank = p.hFrontPorch + p.hSync + p.hBackPorch ∧
  p.hTotal = p.hActive + 2 * p.hBorder + p.hBlank ∧
  p.vBlank = p.vFrontPorch + p.vSync + p.vBackPorch ∧
  p.vTotal = p.vActive + 2 * p.vBorder + p.vBlank + (if p.interlaced then 1 / 2 else 0) ∧
  0 < p.vTotal ∧
  p.pixelClock = p.hTotal * p.hRate / 1000 ∧
  p.vFieldRate = 1000 * p.hRate / p.vTotal ∧
  p.vRate = (if p.interlaced then p.vFieldRate / 2 else p.vFieldRate) ∧
  p.hSyncPositive = !p.vSyncPositive

/-- What a result of each kind satisfies. -/
def resultWellFormed (v : Result) : Prop :=
  match v with
  | .byte _ => True
  | .bool _ => True
  | .bytes b => b.length = 2 ∨ b.length = 3 ∨ b.length = 18 ∨ b.length = 128
  | .std none => True
  | .std (some t) => stdTimingInRange t
  | .cvt3 c => c.encodable = true
  | .dtd d => d.encodable = true
  | .desc d => d.encodable = true
  | .timing p => timingConsistent p

/-- R21, R314: a result exactly when the status is `OK`, and the result is well formed. -/
def responseWellFormed (r : Response) : Prop :=
  (r.status = .ok ↔ r.result.isSome = true) ∧ ∀ v, r.result = some v → resultWellFormed v

/-- The invariant: every response given is well formed. -/
def InterfaceInv (s : State) : Prop :=
  ∀ r ∈ s.responses, responseWellFormed r

/-! ## Terms of the codec claims -/

/-- Bits 4 to 1 of a DTD's byte 17, as a number with those bits in place (R101, R102); `none` for a digital sync that breaks
R32. -/
def syncBits (y : Sync) : Option Nat :=
  match y with
  | .analog bipolar serrations syncOnGreen =>
    some (8 * bipolar.toNat + 4 * serrations.toNat + 2 * (!syncOnGreen).toNat)
  | .digital true (some x) none hPos => some (16 + 4 * x.toNat + 2 * hPos.toNat)
  | .digital false none (some y) hPos => some (24 + 4 * y.toNat + 2 * hPos.toNat)
  | .digital _ _ _ _ => none

/-- R105, R108: the 18 bytes `l` are the slot of a string descriptor with this tag and content. -/
def IsStringSlot (tag : Byte) (c l : List Byte) : Prop :=
  0x0A ∉ c ∧
    ((c.length = 13 ∧ l = [0x00, 0x00, 0x00, tag, 0x00] ++ c) ∨
      (c.length ≤ 12 ∧
        l = [0x00, 0x00, 0x00, tag, 0x00] ++ c ++ [0x0A] ++ List.replicate (12 - c.length) 0x20))

/-- `instr` answers this descriptor for the slot `l`. -/
def decodesTo (instr : Operand → Instr) (l : List Byte) (d : Descriptor) : Prop :=
  ∀ s, exec (instr (.bytes l)) s = .next (withResponse s .ok (some (.desc d)))

/-- `instr` answers these bytes for the descriptor `d`. -/
def encodesTo (instr : Operand → Instr) (d : Descriptor) (l : List Byte) : Prop :=
  ∀ s, exec (instr (.descIn d)) s = .next (withResponse s .ok (some (.bytes l)))

/-- `instr` ends with the status `st` and no result. -/
def endsWith (instr : Operand → Instr) (o : Operand) (st : Status) : Prop :=
  ∀ s, exec (instr o) s = .next (withResponse s st none)

/-- The six registry decoders, in the order of R210. -/
def registryDecInstrs : Vector (Operand → Instr) 6 :=
  #v[.regDecDummy, .regDecSerial, .regDecAlnum, .regDecRange, .regDecName, .regDecEt3]

/-- The six registry encoders, in the same order. -/
def registryEncInstrs : Vector (Operand → Instr) 6 :=
  #v[.regEncDummy, .regEncSerial, .regEncAlnum, .regEncRange, .regEncName, .regEncEt3]

/-- R195, R196: a string variant's decoder answers its variant for exactly the string slots with its tag. -/
def stringDecoderMeets (tag : Byte) (variant : List Byte → Descriptor) (instr : Operand → Instr) : Prop :=
  (∀ c l, IsStringSlot tag c l → decodesTo instr l (variant c)) ∧
    ∀ l, l.length = 18 → (∀ c, ¬ IsStringSlot tag c l) → endsWith instr (.bytes l) .notThisType

/-- R195, R197: a string variant's encoder writes the string slot of its content, and refuses content that has none. -/
def stringEncoderMeets (tag : Byte) (variant : List Byte → Descriptor) (instr : Operand → Instr) : Prop :=
  (∀ c, c.length ≤ 13 → 0x0A ∉ c → ∃ l, IsStringSlot tag c l ∧ encodesTo instr (variant c) l) ∧
    (∀ c, 13 < c.length ∨ 0x0A ∈ c → endsWith instr (.descIn (variant c)) .failMalformed) ∧
    ∀ d, (∀ c, d ≠ variant c) → endsWith instr (.descIn d) .doesNotApply

/-- R208 for one variant: its decoder and its encoder undo each other. -/
def registryPairInverse (dec enc : Operand → Instr) : Prop :=
  (∀ l d, decodesTo dec l d → encodesTo enc d l) ∧ ∀ d l, encodesTo enc d l → decodesTo dec l d

/-! ## Terms of the generator claims -/

/-- The field rate in Hz: twice the frame rate when interlaced (R244, R283). -/
def fieldRate (interlaced : Bool) (refresh : ℚ) : ℚ :=
  if interlaced then 2 * refresh else refresh

/-- The half line of an interlaced field (R244, R283). -/
def halfLine (interlaced : Bool) : ℚ :=
  if interlaced then 1 / 2 else 0

/-- The vertical steps of R283 to R287 in closed form, from the operands alone. -/
def gtfLines (a : GtfGenArgs) : ℚ :=
  if a.interlaced then (((a.vActive + 1) / 2 : ℕ) : ℚ) else (a.vActive : ℚ)

def gtfTop (a : GtfGenArgs) : ℚ :=
  if a.margins then ((⌊9 / 500 * gtfLines a + 1 / 2⌋ : ℤ) : ℚ) else 0

/-- Vertical sync plus back porch (R284, R285). -/
def gtfSyncLines (a : GtfGenArgs) : ℚ :=
  ((⌊550 / ((1000000 / fieldRate a.interlaced a.refresh - 550) /
      (gtfLines a + 2 * gtfTop a + 1 + halfLine a.interlaced)) + 1 / 2⌋ : ℤ) : ℚ)

/-- Total lines (R286). -/
def gtfTotalLines (a : GtfGenArgs) : ℚ :=
  gtfLines a + 2 * gtfTop a + gtfSyncLines a + halfLine a.interlaced + 1

/-- The refined period in µs: the one that gives the field rate exactly (R287). -/
def gtfExactPeriod (a : GtfGenArgs) : ℚ :=
  1000000 / (fieldRate a.interlaced a.refresh * gtfTotalLines a)

/-- The duty cycle at that period (R289). -/
def gtfExactDuty (a : GtfGenArgs) : ℚ :=
  (a.c - a.j) * a.k / 256 + a.j - a.k / 256 * a.m * gtfExactPeriod a / 1000

/-- When GTF_GEN has a timing to give (R282, R284, R289). -/
def gtfInDomain (a : GtfGenArgs) : Prop :=
  0 < a.refresh ∧ 550 * fieldRate a.interlaced a.refresh < 1000000 ∧ gtfExactDuty a ≠ 100

/-- When CVT_GEN with standard blanking has a timing to give (R243, R246, R249). -/
def cvtStandardInDomain (a : CvtGenArgs) : Prop :=
  0 < a.refresh ∧ 550 * fieldRate a.interlaced a.refresh < 1000000 ∧ 8 ≤ a.hActive

/-- When CVT_GEN with reduced blanking has a timing to give (R243, R253). -/
def cvtReducedInDomain (a : CvtGenArgs) : Prop :=
  0 < a.refresh ∧ 460 * fieldRate a.interlaced a.refresh < 1000000 ∧
    (if a.interlaced then 2 ≤ a.vActive else 1 ≤ a.vActive)

/-- CVT_GEN answers this timing. -/
def cvtAnswers (a : CvtGenArgs) (p : TimingParams) : Prop :=
  ∀ s, exec (.cvtGen (.cvtGenIn a)) s = .next (withResponse s .ok (some (.timing p)))

/-- GTF_GEN answers this timing. -/
def gtfAnswers (a : GtfGenArgs) (p : TimingParams) : Prop :=
  ∀ s, exec (.gtfGen (.gtfGenIn a)) s = .next (withResponse s .ok (some (.timing p)))

/-- The step values both CVT models share (R244, R255). -/
def cvtSharedFields (a : CvtGenArgs) (p : TimingParams) : Prop :=
  p.hActive = 8 * ((a.hActive / 8 : ℕ) : ℚ) ∧
  p.hBorder = (if a.margins then 8 * ((⌊p.hActive * (9 / 5) / 800⌋ : ℤ) : ℚ) else 0) ∧
  p.vActive = (if a.interlaced then ((a.vActive / 2 : ℕ) : ℚ) else (a.vActive : ℚ)) ∧
  p.vBorder = (if a.margins then ((⌊9 / 500 * p.vActive⌋ : ℤ) : ℚ) else 0) ∧
  p.hTotal = p.hActive + 2 * p.hBorder + p.hBlank ∧
  p.vBlank = p.vFrontPorch + p.vSync + p.vBackPorch ∧
  p.vTotal = p.vActive + 2 * p.vBorder + p.vBlank + halfLine a.interlaced ∧
  p.hRate = 1000 * p.pixelClock / p.hTotal ∧
  p.vFieldRate = 1000 * p.hRate / p.vTotal ∧
  p.vRate = (if a.interlaced then p.vFieldRate / 2 else p.vFieldRate) ∧
  p.interlaced = a.interlaced

/-- The sync width of R245 before v2 and v2-video replace it, for the exact aspect match of this hardware. -/
def cvtSyncByAspect (vActive : Nat) (hRnd : ℚ) : ℚ :=
  if (vActive : ℚ) * 4 = hRnd * 3 then 4
  else if (vActive : ℚ) * 16 = hRnd * 9 then 5
  else if (vActive : ℚ) * 16 = hRnd * 10 then 6
  else if (vActive : ℚ) * 5 = hRnd * 4 then 7
  else if (vActive : ℚ) * 15 = hRnd * 9 then 7
  else 10

end Sys2Proof.Machine
end

