-- ==== Sys2Proof/Certificates/Slice0/Obligations.lean ====
section
/-! DEFINITION. The statements for the provers (OBLIGATIONS.json lists them). -/

open Sys2Proof Sys2Proof.Machine

/-! ## The interface and the step -/

/-- When the request in flight decodes to an instruction, the step is `exec` of it, on the state with that request taken
(R66, R343, by the interface of log entry 1). -/
def Obligations.StepRunsTheDecodedInstruction : Prop :=
  ∀ (s : State) (r : Request) (rest : List Request) (i : Instr),
    s.pending = r :: rest → decode r = .ok i →
      step s = exec i { pending := rest, responses := s.responses }

/-- R81: each of the 25 op codes runs its instruction, whatever the operand. -/
def Obligations.OpcodesRunTheirInstructions : Prop :=
  opcodeRuns 0x01 .chkCompute ∧ opcodeRuns 0x02 .chkValidate ∧ opcodeRuns 0x03 .chkSeal ∧
  opcodeRuns 0x10 .stdDec ∧ opcodeRuns 0x11 .stdEnc ∧ opcodeRuns 0x12 .cvt3Dec ∧ opcodeRuns 0x13 .cvt3Enc ∧
  opcodeRuns 0x20 .dtdDec ∧ opcodeRuns 0x21 .dtdEnc ∧ opcodeRuns 0x30 .slotDec ∧ opcodeRuns 0x31 .slotEnc ∧
  opcodeRuns 0x40 .regDecDummy ∧ opcodeRuns 0x41 .regEncDummy ∧
  opcodeRuns 0x42 .regDecSerial ∧ opcodeRuns 0x43 .regEncSerial ∧
  opcodeRuns 0x44 .regDecAlnum ∧ opcodeRuns 0x45 .regEncAlnum ∧
  opcodeRuns 0x46 .regDecRange ∧ opcodeRuns 0x47 .regEncRange ∧
  opcodeRuns 0x48 .regDecName ∧ opcodeRuns 0x49 .regEncName ∧
  opcodeRuns 0x4A .regDecEt3 ∧ opcodeRuns 0x4B .regEncEt3 ∧
  opcodeRuns 0x50 .cvtGen ∧ opcodeRuns 0x60 .gtfGen

/-- Decoding the request of an instruction gives the instruction back, and a request that decodes is the request of
its instruction (from the map of R81). -/
def Obligations.DecodeAndEncodeAgree : Prop :=
  (∀ i : Instr, decode (encode i) = .ok i) ∧ ∀ (r : Request) (i : Instr), decode r = .ok i → encode i = r

/-- R82: every op code outside the map gives `ILLEGAL_OP` with no result and no other effect; every other op code is an
instruction's. -/
def Obligations.OpcodesOutsideTheMapAreIllegal : Prop :=
  ∀ (op : BitVec 8) (o : Operand),
    let n := op.toNat
    let outside := n = 0x00 ∨ (0x04 ≤ n ∧ n ≤ 0x0F) ∨ (0x14 ≤ n ∧ n ≤ 0x1F) ∨ (0x22 ≤ n ∧ n ≤ 0x2F) ∨
      (0x32 ≤ n ∧ n ≤ 0x3F) ∨ (0x4C ≤ n ∧ n ≤ 0x4F) ∨ (0x51 ≤ n ∧ n ≤ 0x5F) ∨ (0x61 ≤ n ∧ n ≤ 0xFF)
    (outside →
      ∀ (s : State) (rest : List Request), s.pending = { op := op, operand := o } :: rest →
        step s = .next (withResponse { pending := rest, responses := s.responses } .illegalOp none)) ∧
    (¬ outside → ∃ i, decode { op := op, operand := o } = .ok i ∧ i.operand = o)

/-- R83: an operand of the wrong kind gives `FAIL_MALFORMED`, a byte string of the wrong length gives `FAIL_LENGTH`; both
change nothing else. -/
def Obligations.WrongOperandsEndWithTheirStatus : Prop :=
  ∀ (i : Instr) (s : State),
    (i.operand.kind ≠ i.operandKind → exec i s = .next (withResponse s .failMalformed none)) ∧
    ∀ n b, i.operandKind = .bytes → i.operandLength = some n → i.operand = .bytes b → b.length ≠ n →
      exec i s = .next (withResponse s .failLength none)

/-- An instruction, whatever its status, adds one response and changes nothing else, and that response does not
depend on the state. R315 says it, and the spec marks R315 as derived from R22 and R314. -/
def Obligations.InstructionsChangeOnlyTheirResponse : Prop :=
  ∀ i : Instr, ∃ q : Response, ∀ s : State,
    exec i s = .next { pending := s.pending, responses := s.responses ++ [q] }

/-- The model's reading of R326, "It is idle whenever it has no request" (log entry 2): with no request issued a step
changes nothing. -/
def Obligations.IdleStepChangesNothing : Prop :=
  ∀ s : State, s.pending = [] → step s = .next s

/-- R22: equal requests get equal responses, whatever was asked and answered before and whatever is asked after. -/
def Obligations.ResponsesDependOnTheRequestAlone : Prop :=
  ∀ (s t : State) (r : Request) (restS restT : List Request),
    s.pending = r :: restS → t.pending = r :: restT →
      ∃ q : Response,
        step s = .next { pending := restS, responses := s.responses ++ [q] } ∧
        step t = .next { pending := restT, responses := t.responses ++ [q] }

/-- R70: as many steps as there are requests answer all of them, each by the function of the request alone, in the order
of the requests. -/
def Obligations.RunAnswersRequestsInOrder : Prop :=
  ∀ s : State,
    Sys2Proof.core.run s.pending.length s =
      .next { pending := [], responses := s.responses ++ s.pending.map responseTo }

/-- Requests served in any order get each the same response: R348, which the spec derives from R22. -/
def Obligations.EveryOrderGivesEachRequestItsResponse : Prop :=
  ∀ s t : State, s.pending.Perm t.pending →
    ∃ qs rs : List Response,
      Sys2Proof.core.run s.pending.length s = .next { pending := [], responses := s.responses ++ qs } ∧
      Sys2Proof.core.run t.pending.length t = .next { pending := [], responses := t.responses ++ rs } ∧
      (s.pending.zip qs).Perm (t.pending.zip rs) ∧ qs.length = s.pending.length ∧ rs.length = t.pending.length

/-- The model's choice (log entry 4) of what R340's reset does to the requests issued: a reset unit answers none of the
requests it abandoned, however long it runs, and answers the next request it is issued. -/
def Obligations.ResetAbandonsRequestsAndLeavesTheUnitReady : Prop :=
  ∀ s : State,
    (∀ n : Nat, Sys2Proof.core.run n (hostReset s) = .next (hostReset s)) ∧
    (hostReset s).responses = s.responses ∧
    ∀ r : Request,
      step (hostIssue r (hostReset s)) = .next { pending := [], responses := s.responses ++ [responseTo r] }

/-- Every step keeps every response well formed: a result exactly when the status is `OK` (R21, R314), and in the result the
ranges and relations the spec derives for it (R29, R32, R39, R155, R255, R291), by the interface of log entry 1. -/
def Obligations.StepsKeepResponsesWellFormed : Prop :=
  ∀ s t : State, InterfaceInv s → step s = .next t → InterfaceInv t

/-- The reset state satisfies the invariant and has no request in flight (R340). That it holds no response is the model's
choice (log entry 1). -/
def Obligations.ResetSatisfiesTheInvariant : Prop :=
  InterfaceInv State.reset ∧ State.reset.pending = []

/-! ## Checksum unit -/

/-- R140. -/
def Obligations.ChkComputeAnswersTheTwosComplement : Prop :=
  opcodeRuns 0x01 .chkCompute ∧ refusesOtherKinds .bytes .chkCompute ∧
  ∀ (b : List Byte) (s : State), ∃ cs : Byte,
    exec (.chkCompute (.bytes b)) s = .next (withResponse s .ok (some (.byte cs))) ∧
    cs.toNat = (256 - (b.map BitVec.toNat).sum % 256) % 256 ∧
    ((b.map BitVec.toNat).sum % 256 + cs.toNat) % 256 = 0

/-- R141: the flag compares the checksum of bytes 0 to 126 with byte 127, which is the same as asking for a block sum of 0
mod 256. -/
def Obligations.ChkValidateTestsTheBlockSum : Prop :=
  opcodeRuns 0x02 .chkValidate ∧ refusesOtherKinds .bytes .chkValidate ∧ refusesOtherLengths 128 .chkValidate ∧
  ∀ (b : Bytes 128) (s : State), ∃ valid : Bool,
    exec (.chkValidate (.bytes b.toList)) s = .next (withResponse s .ok (some (.bool valid))) ∧
    (valid = true ↔ (256 - ((b.toList.take 127).map BitVec.toNat).sum % 256) % 256 = b[127].toNat) ∧
    (valid = true ↔ (b.toList.map BitVec.toNat).sum % 256 = 0)

/-- R142. -/
def Obligations.ChkSealRecomputesTheLastByte : Prop :=
  opcodeRuns 0x03 .chkSeal ∧ refusesOtherKinds .bytes .chkSeal ∧ refusesOtherLengths 128 .chkSeal ∧
  ∀ (b : Bytes 128) (s : State), ∃ cs : Byte,
    exec (.chkSeal (.bytes b.toList)) s = .next (withResponse s .ok (some (.bytes (b.toList.take 127 ++ [cs])))) ∧
    cs.toNat = (256 - ((b.toList.take 127).map BitVec.toNat).sum % 256) % 256

/-- The laws between the three checksum operations that R144 derives from R140, R141 and R142. -/
def Obligations.ChecksumLaws : Prop :=
  ∀ (b : List Byte) (s : State), b.length = 128 →
    (∃ sealedBlock : List Byte, sealedBlock.length = 128 ∧
      exec (.chkSeal (.bytes b)) s = .next (withResponse s .ok (some (.bytes sealedBlock))) ∧
      exec (.chkValidate (.bytes sealedBlock)) s = .next (withResponse s .ok (some (.bool true)))) ∧
    (exec (.chkValidate (.bytes b)) s = .next (withResponse s .ok (some (.bool true))) ↔
      exec (.chkCompute (.bytes b)) s = .next (withResponse s .ok (some (.byte 0x00)))) ∧
    (exec (.chkSeal (.bytes b)) s = .next (withResponse s .ok (some (.bytes b))) ↔
      exec (.chkValidate (.bytes b)) s = .next (withResponse s .ok (some (.bool true))))

/-! ## Field codecs -/

/-- R152, with the 5-bit refresh field of this hardware (R150). -/
def Obligations.StdDecReadsTheTiming : Prop :=
  opcodeRuns 0x10 .stdDec ∧ refusesOtherKinds .bytes .stdDec ∧ refusesOtherLengths 2 .stdDec ∧
  ∀ (b0 b1 : Byte) (s : State),
    exec (.stdDec (.bytes [b0, b1])) s =
      .next (withResponse s .ok (some (.std
        (if b0 = 0x01 ∧ b1 = 0x01 then none
         else some
          { hActive8 := b0.toNat + 31
            aspect := BitVec.ofNat 2 (b1.toNat / 64)
            refresh := b1.toNat % 32 + 60 }))))

/-- R153, with the 5-bit refresh field of this hardware (R150). -/
def Obligations.StdEncWritesTheTimingOrRefuses : Prop :=
  opcodeRuns 0x11 .stdEnc ∧ refusesOtherKinds .stdIn .stdEnc ∧
  (∀ s : State, exec (.stdEnc (.stdIn none)) s = .next (withResponse s .ok (some (.bytes [0x01, 0x01])))) ∧
  ∀ (t : StdTiming) (s : State),
    exec (.stdEnc (.stdIn (some t))) s =
      .next
        (if t.hActive8 < 31 ∨ 286 < t.hActive8 ∨ t.refresh < 60 ∨ 91 < t.refresh ∨
            (t.hActive8 = 32 ∧ t.aspect = 0 ∧ t.refresh = 61) then
          withResponse s .failRange none
        else
          withResponse s .ok (some (.bytes
            [BitVec.ofNat 8 (t.hActive8 - 31), BitVec.ofNat 8 (64 * t.aspect.toNat + (t.refresh - 60))])))

/-- The laws R154 derives from R152 and R153, for either width of the refresh field. -/
def Obligations.StandardTimingRoundTrip : Prop :=
  ∀ w : Nat, w = 5 ∨ w = 6 →
    (∀ (o : Option StdTiming) (l : List Byte), stdEncode w o = .ok l →
      ∃ b : Bytes 2, b.toList = l ∧ stdDecode w b = o) ∧
    (∀ b : Bytes 2, b[1].toNat % 64 < 2 ^ w → stdEncode w (stdDecode w b) = .ok b.toList) ∧
    stdDecode w #v[0x01, 0x01] = none ∧ stdEncode w none = .ok [0x01, 0x01]

/-- R157. -/
def Obligations.Cvt3DecReadsTheCode : Prop :=
  opcodeRuns 0x12 .cvt3Dec ∧ refusesOtherKinds .bytes .cvt3Dec ∧ refusesOtherLengths 3 .cvt3Dec ∧
  ∀ (b0 b1 b2 : Byte) (s : State),
    exec (.cvt3Dec (.bytes [b0, b1, b2])) s =
      .next (withResponse s .ok (some (.cvt3
        { vActive := 2 * (b0.toNat + 256 * (b1.toNat / 16)) + 2
          aspect := BitVec.ofNat 2 (b1.toNat / 4)
          rsvA := BitVec.ofNat 2 b1.toNat
          prefRate := BitVec.ofNat 2 (b2.toNat / 32)
          rates := BitVec.ofNat 5 b2.toNat
          rsvB := BitVec.ofNat 1 (b2.toNat / 128) })))

/-- R158. -/
def Obligations.Cvt3EncWritesTheCodeOrRefuses : Prop :=
  opcodeRuns 0x13 .cvt3Enc ∧ refusesOtherKinds .cvt3In .cvt3Enc ∧
  ∀ (c : CvtCode) (s : State),
    exec (.cvt3Enc (.cvt3In c)) s =
      .next
        (if c.vActive % 2 ≠ 0 ∨ c.vActive < 2 ∨ 8192 < c.vActive then withResponse s .failRange none
        else
          withResponse s .ok (some (.bytes
            [BitVec.ofNat 8 (c.vActive / 2 - 1),
             BitVec.ofNat 8 (16 * ((c.vActive / 2 - 1) / 256) + 4 * c.aspect.toNat + c.rsvA.toNat),
             BitVec.ofNat 8 (128 * c.rsvB.toNat + 32 * c.prefRate.toNat + c.rates.toNat)])))

/-- The laws R159 derives from R157 and R158, on the machine. -/
def Obligations.CvtCodeRoundTrip : Prop :=
  (∀ (b : List Byte) (s : State), b.length = 3 → ∃ c : CvtCode,
    exec (.cvt3Dec (.bytes b)) s = .next (withResponse s .ok (some (.cvt3 c))) ∧
    exec (.cvt3Enc (.cvt3In c)) s = .next (withResponse s .ok (some (.bytes b)))) ∧
  ∀ (c : CvtCode) (b : List Byte) (s : State),
    exec (.cvt3Enc (.cvt3In c)) s = .next (withResponse s .ok (some (.bytes b))) →
      exec (.cvt3Dec (.bytes b)) s = .next (withResponse s .ok (some (.cvt3 c)))

/-! ## Detailed Timing Descriptor -/

/-- R171: `NOT_THIS_TYPE` for a zero pixel clock; otherwise every field, as a number made of the bytes. -/
def Obligations.DtdDecReadsEveryField : Prop :=
  opcodeRuns 0x20 .dtdDec ∧ refusesOtherKinds .bytes .dtdDec ∧ refusesOtherLengths 18 .dtdDec ∧
  ∀ (b : Bytes 18) (s : State),
    (b[0] = 0 ∧ b[1] = 0 → exec (.dtdDec (.bytes b.toList)) s = .next (withResponse s .notThisType none)) ∧
    (b[0] ≠ 0 ∨ b[1] ≠ 0 → ∃ d : Dtd,
      exec (.dtdDec (.bytes b.toList)) s = .next (withResponse s .ok (some (.dtd d))) ∧
      d.pixelClock.toNat = b[0].toNat + 256 * b[1].toNat ∧
      d.hActive.toNat = b[2].toNat + 256 * (b[4].toNat / 16) ∧
      d.hBlank.toNat = b[3].toNat + 256 * (b[4].toNat % 16) ∧
      d.vActive.toNat = b[5].toNat + 256 * (b[7].toNat / 16) ∧
      d.vBlank.toNat = b[6].toNat + 256 * (b[7].toNat % 16) ∧
      d.hFrontPorch.toNat = b[8].toNat + 256 * (b[11].toNat / 64) ∧
      d.hSyncWidth.toNat = b[9].toNat + 256 * (b[11].toNat / 16 % 4) ∧
      d.vFrontPorch.toNat = b[10].toNat / 16 + 16 * (b[11].toNat / 4 % 4) ∧
      d.vSyncWidth.toNat = b[10].toNat % 16 + 16 * (b[11].toNat % 4) ∧
      d.hSizeMm.toNat = b[12].toNat + 256 * (b[14].toNat / 16) ∧
      d.vSizeMm.toNat = b[13].toNat + 256 * (b[14].toNat % 16) ∧
      d.hBorder = b[15] ∧ d.vBorder = b[16] ∧
      (d.interlaced = true ↔ 128 ≤ b[17].toNat) ∧
      d.stereo.toNat = b[17].toNat % 2 + 2 * (b[17].toNat / 32 % 4) ∧
      (b[17].toNat / 16 % 2 = 0 →
        d.sync = .analog (b[17].getLsbD 3) (b[17].getLsbD 2) (!(b[17].getLsbD 1))) ∧
      (b[17].toNat / 8 % 4 = 2 →
        d.sync = .digital true (some (b[17].getLsbD 2)) none (b[17].getLsbD 1)) ∧
      (b[17].toNat / 8 % 4 = 3 →
        d.sync = .digital false none (some (b[17].getLsbD 2)) (b[17].getLsbD 1)))

/-- R172: `FAIL_MALFORMED` for a zero pixel clock or a digital sync that breaks the nullability of R32; otherwise the 18
bytes, as numbers made of the fields. -/
def Obligations.DtdEncWritesEveryByteOrRefuses : Prop :=
  opcodeRuns 0x21 .dtdEnc ∧ refusesOtherKinds .dtdIn .dtdEnc ∧
  ∀ (d : Dtd) (s : State),
    (d.pixelClock = 0 ∨ syncBits d.sync = none →
      exec (.dtdEnc (.dtdIn d)) s = .next (withResponse s .failMalformed none)) ∧
    ∀ sb : Nat, d.pixelClock ≠ 0 → syncBits d.sync = some sb → ∃ l : List Byte,
      exec (.dtdEnc (.dtdIn d)) s = .next (withResponse s .ok (some (.bytes l))) ∧
      l.map BitVec.toNat =
        [ d.pixelClock.toNat % 256, d.pixelClock.toNat / 256,
          d.hActive.toNat % 256, d.hBlank.toNat % 256,
          16 * (d.hActive.toNat / 256) + d.hBlank.toNat / 256,
          d.vActive.toNat % 256, d.vBlank.toNat % 256,
          16 * (d.vActive.toNat / 256) + d.vBlank.toNat / 256,
          d.hFrontPorch.toNat % 256, d.hSyncWidth.toNat % 256,
          16 * (d.vFrontPorch.toNat % 16) + d.vSyncWidth.toNat % 16,
          64 * (d.hFrontPorch.toNat / 256) + 16 * (d.hSyncWidth.toNat / 256) + 4 * (d.vFrontPorch.toNat / 16) +
            d.vSyncWidth.toNat / 16,
          d.hSizeMm.toNat % 256, d.vSizeMm.toNat % 256,
          16 * (d.hSizeMm.toNat / 256) + d.vSizeMm.toNat / 256,
          d.hBorder.toNat, d.vBorder.toNat,
          128 * d.interlaced.toNat + 32 * (d.stereo.toNat / 2) + sb + d.stereo.toNat % 2 ]

/-- The laws R173 derives from R171 and R172: DTD_DEC and DTD_ENC are inverse bijections between timing slots and the
records DTD_ENC accepts. -/
def Obligations.DetailedTimingRoundTrip : Prop :=
  (∀ (b : Bytes 18) (s : State), b[0] ≠ 0 ∨ b[1] ≠ 0 → ∃ d : Dtd,
    exec (.dtdDec (.bytes b.toList)) s = .next (withResponse s .ok (some (.dtd d))) ∧
    exec (.dtdEnc (.dtdIn d)) s = .next (withResponse s .ok (some (.bytes b.toList)))) ∧
  ∀ (d : Dtd) (l : List Byte) (s : State),
    exec (.dtdEnc (.dtdIn d)) s = .next (withResponse s .ok (some (.bytes l))) →
      exec (.dtdDec (.bytes l)) s = .next (withResponse s .ok (some (.dtd d)))

/-! ## Descriptor registry -/

/-- R193: a Dummy is the one slot with tag 0x10 and every other byte zero. -/
def Obligations.RegDecDummyAcceptsOneSlot : Prop :=
  opcodeRuns 0x40 .regDecDummy ∧ refusesOtherKinds .bytes .regDecDummy ∧ refusesOtherLengths 18 .regDecDummy ∧
  ∀ l : List Byte, l.length = 18 →
    (l = [0x00, 0x00, 0x00, 0x10] ++ List.replicate 14 0x00 → decodesTo .regDecDummy l .dummy) ∧
    (l ≠ [0x00, 0x00, 0x00, 0x10] ++ List.replicate 14 0x00 → endsWith .regDecDummy (.bytes l) .notThisType)

/-- R194. -/
def Obligations.RegEncDummyWritesOneSlot : Prop :=
  opcodeRuns 0x41 .regEncDummy ∧ refusesOtherKinds .descIn .regEncDummy ∧
  encodesTo .regEncDummy .dummy ([0x00, 0x00, 0x00, 0x10] ++ List.replicate 14 0x00) ∧
  ∀ d : Descriptor, d ≠ .dummy → endsWith .regEncDummy (.descIn d) .doesNotApply

/-- R196, R198, R200, with the string payload of R108 and the tags of R195. -/
def Obligations.StringDecodersAcceptExactlyTheirSlots : Prop :=
  (opcodeRuns 0x42 .regDecSerial ∧ refusesOtherKinds .bytes .regDecSerial ∧ refusesOtherLengths 18 .regDecSerial ∧
    stringDecoderMeets 0xFF .serialNumber .regDecSerial) ∧
  (opcodeRuns 0x44 .regDecAlnum ∧ refusesOtherKinds .bytes .regDecAlnum ∧ refusesOtherLengths 18 .regDecAlnum ∧
    stringDecoderMeets 0xFE .alphanumericString .regDecAlnum) ∧
  (opcodeRuns 0x48 .regDecName ∧ refusesOtherKinds .bytes .regDecName ∧ refusesOtherLengths 18 .regDecName ∧
    stringDecoderMeets 0xFC .productName .regDecName)

/-- R197, R199, R201, with the string payload of R108 and the tags of R195. -/
def Obligations.StringEncodersWriteTheirSlotsOrRefuse : Prop :=
  (opcodeRuns 0x43 .regEncSerial ∧ refusesOtherKinds .descIn .regEncSerial ∧
    stringEncoderMeets 0xFF .serialNumber .regEncSerial) ∧
  (opcodeRuns 0x45 .regEncAlnum ∧ refusesOtherKinds .descIn .regEncAlnum ∧
    stringEncoderMeets 0xFE .alphanumericString .regEncAlnum) ∧
  (opcodeRuns 0x49 .regEncName ∧ refusesOtherKinds .descIn .regEncName ∧
    stringEncoderMeets 0xFC .productName .regEncName)

/-- R203: every slot with the header decodes, its fields as numbers made of the bytes, an offset flag adding 255 to its own
rate only (R36); every other slot is not of this type. -/
def Obligations.RegDecRangeReadsEveryField : Prop :=
  opcodeRuns 0x46 .regDecRange ∧ refusesOtherKinds .bytes .regDecRange ∧ refusesOtherLengths 18 .regDecRange ∧
  ∀ b : Bytes 18,
    (¬ (b[0] = 0 ∧ b[1] = 0 ∧ b[2] = 0 ∧ b[3] = 0xFD) → endsWith .regDecRange (.bytes b.toList) .notThisType) ∧
    (b[0] = 0 ∧ b[1] = 0 ∧ b[2] = 0 ∧ b[3] = 0xFD → ∃ r : Drl,
      decodesTo .regDecRange b.toList (.displayRangeLimits r) ∧
      r.flagsRsv.toNat = b[4].toNat / 16 ∧
      r.hMaxPlus255 = b[4].getLsbD 3 ∧ r.hMinPlus255 = b[4].getLsbD 2 ∧
      r.vMaxPlus255 = b[4].getLsbD 1 ∧ r.vMinPlus255 = b[4].getLsbD 0 ∧
      r.vMin = b[5] ∧ r.vMax = b[6] ∧ r.hMin = b[7] ∧ r.hMax = b[8] ∧ r.maxPclk10 = b[9] ∧
      vMinHz r = b[5].toNat + 255 * (b[4].getLsbD 0).toNat ∧ vMaxHz r = b[6].toNat + 255 * (b[4].getLsbD 1).toNat ∧
      hMinKhz r = b[7].toNat + 255 * (b[4].getLsbD 2).toNat ∧ hMaxKhz r = b[8].toNat + 255 * (b[4].getLsbD 3).toNat ∧
      (b[10] = 0x02 → ∃ g : SecondaryGtf, r.timing = .secondaryGtf g ∧
        g.rsv = b[11] ∧ g.hBreak2 = b[12] ∧ g.c2 = b[13] ∧ g.m.toNat = b[14].toNat + 256 * b[15].toNat ∧
        g.k = b[16] ∧ g.j2 = b[17]) ∧
      (b[10] = 0x04 → ∃ c : CvtSupport, r.timing = .cvtSupport c ∧
        c.version = b[11] ∧ c.pclkOffset.toNat = b[12].toNat / 4 ∧
        c.maxActive8.toNat = b[13].toNat + 256 * (b[12].toNat % 4) ∧
        c.aspects.toNat = b[14].toNat / 8 ∧ c.aspectsRsv.toNat = b[14].toNat % 8 ∧
        c.prefAspect.toNat = b[15].toNat / 32 ∧ c.rbSupported = b[15].getLsbD 4 ∧
        c.stdSupported = b[15].getLsbD 3 ∧ c.blankRsv.toNat = b[15].toNat % 8 ∧
        c.scaling.toNat = b[16].toNat / 16 ∧ c.scalingRsv.toNat = b[16].toNat % 16 ∧ c.prefVRate = b[17]) ∧
      (b[10] ≠ 0x02 ∧ b[10] ≠ 0x04 → ∃ raw : Bytes 7,
        r.timing = .plain b[10] raw ∧ raw.toList = b.toList.drop 11))

/-- R204. -/
def Obligations.RegEncRangeWritesEveryByteOrRefuses : Prop :=
  opcodeRuns 0x47 .regEncRange ∧ refusesOtherKinds .descIn .regEncRange ∧
  (∀ d : Descriptor, (∀ r, d ≠ .displayRangeLimits r) → endsWith .regEncRange (.descIn d) .doesNotApply) ∧
  ∀ r : Drl,
    (∀ selector raw, r.timing = .plain selector raw → selector = 0x02 ∨ selector = 0x04 →
      endsWith .regEncRange (.descIn (.displayRangeLimits r)) .failMalformed) ∧
    ∀ tail : List Nat,
      ((∃ selector raw, r.timing = .plain selector raw ∧ selector ≠ 0x02 ∧ selector ≠ 0x04 ∧
          tail = selector.toNat :: raw.toList.map BitVec.toNat) ∨
        (∃ g, r.timing = .secondaryGtf g ∧
          tail = [2, g.rsv.toNat, g.hBreak2.toNat, g.c2.toNat, g.m.toNat % 256, g.m.toNat / 256, g.k.toNat,
            g.j2.toNat]) ∨
        (∃ c, r.timing = .cvtSupport c ∧
          tail = [4, c.version.toNat, 4 * c.pclkOffset.toNat + c.maxActive8.toNat / 256, c.maxActive8.toNat % 256,
            8 * c.aspects.toNat + c.aspectsRsv.toNat,
            32 * c.prefAspect.toNat + 16 * c.rbSupported.toNat + 8 * c.stdSupported.toNat + c.blankRsv.toNat,
            16 * c.scaling.toNat + c.scalingRsv.toNat, c.prefVRate.toNat])) →
      ∃ l : List Byte, encodesTo .regEncRange (.displayRangeLimits r) l ∧
        l.map BitVec.toNat =
          [0, 0, 0, 0xFD,
           16 * r.flagsRsv.toNat + 8 * r.hMaxPlus255.toNat + 4 * r.hMinPlus255.toNat + 2 * r.vMaxPlus255.toNat +
             r.vMinPlus255.toNat,
           r.vMin.toNat, r.vMax.toNat, r.hMin.toNat, r.hMax.toNat, r.maxPclk10.toNat] ++ tail

/-- R206: accepted exactly with the header and the marker 0x0A at byte 5 (R205). -/
def Obligations.RegDecEt3ChecksTheMarker : Prop :=
  opcodeRuns 0x4A .regDecEt3 ∧ refusesOtherKinds .bytes .regDecEt3 ∧ refusesOtherLengths 18 .regDecEt3 ∧
  ∀ l : List Byte, l.length = 18 →
    (∀ e : Et3, l = [0x00, 0x00, 0x00, 0xF7, 0x00, 0x0A] ++ e.bitmap.toList ++ e.rsv.toList →
      decodesTo .regDecEt3 l (.establishedTimingsIII e)) ∧
    (l.take 6 ≠ [0x00, 0x00, 0x00, 0xF7, 0x00, 0x0A] → endsWith .regDecEt3 (.bytes l) .notThisType)

/-- R207. -/
def Obligations.RegEncEt3WritesTheSlot : Prop :=
  opcodeRuns 0x4B .regEncEt3 ∧ refusesOtherKinds .descIn .regEncEt3 ∧
  (∀ e : Et3, encodesTo .regEncEt3 (.establishedTimingsIII e)
    ([0x00, 0x00, 0x00, 0xF7, 0x00, 0x0A] ++ e.bitmap.toList ++ e.rsv.toList)) ∧
  ∀ d : Descriptor, (∀ e, d ≠ .establishedTimingsIII e) → endsWith .regEncEt3 (.descIn d) .doesNotApply

/-- The laws R208 derives from R193 to R207, for each of the six variants. -/
def Obligations.RegistryRoundTrip : Prop :=
  registryPairInverse .regDecDummy .regEncDummy ∧ registryPairInverse .regDecSerial .regEncSerial ∧
  registryPairInverse .regDecAlnum .regEncAlnum ∧ registryPairInverse .regDecRange .regEncRange ∧
  registryPairInverse .regDecName .regEncName ∧ registryPairInverse .regDecEt3 .regEncEt3

/-- What R209 derives from R190 and R191: at most one decoder accepts a slot, so their order cannot matter, and exactly
one encoder takes a registry variant. -/
def Obligations.RegistryVariantsAreDisjoint : Prop :=
  (∀ (j k : Fin 6) (l : List Byte) (d e : Descriptor),
    decodesTo registryDecInstrs[j] l d → decodesTo registryDecInstrs[k] l e → j = k) ∧
  (∀ (ds : List (Bytes 18 → Except Status Descriptor)) (b : Bytes 18),
    ds.Perm registryDecoders → firstAccepting ds b = regDecode b) ∧
  ∀ d : Descriptor, (∀ t, d ≠ .detailedTiming t) → (∀ raw, d ≠ .opaqueSlot raw) →
    ∃ k : Fin 6,
      ((∃ l, encodesTo registryEncInstrs[k] d l) ∨ endsWith registryEncInstrs[k] (.descIn d) .failMalformed) ∧
      ∀ j : Fin 6, j ≠ k → endsWith registryEncInstrs[j] (.descIn d) .doesNotApply

/-! ## Slot dispatcher -/

/-- R211: every 18-byte slot decodes, the DTD first, then the registry, then the opaque fallback. -/
def Obligations.SlotDecDispatches : Prop :=
  opcodeRuns 0x30 .slotDec ∧ refusesOtherKinds .bytes .slotDec ∧ refusesOtherLengths 18 .slotDec ∧
  ∀ b : Bytes 18,
    (b[0] ≠ 0 ∨ b[1] ≠ 0 → ∃ d : Dtd, decodesTo .slotDec b.toList (.detailedTiming d) ∧
      ∀ s, exec (.dtdDec (.bytes b.toList)) s = .next (withResponse s .ok (some (.dtd d)))) ∧
    (b[0] = 0 ∧ b[1] = 0 ∧ b[2] ≠ 0 → decodesTo .slotDec b.toList (.opaqueSlot b)) ∧
    (b[0] = 0 ∧ b[1] = 0 ∧ b[2] = 0 →
      (∀ (k : Fin 6) (d : Descriptor), decodesTo registryDecInstrs[k] b.toList d → decodesTo .slotDec b.toList d) ∧
      ((∀ k : Fin 6, endsWith registryDecInstrs[k] (.bytes b.toList) .notThisType) →
        decodesTo .slotDec b.toList (.opaqueSlot b)))

/-- R212: the encoder is the variant's; a record that encoder refuses gives `FAIL_MALFORMED`, never `DOES_NOT_APPLY`. -/
def Obligations.SlotEncChoosesTheEncoder : Prop :=
  opcodeRuns 0x31 .slotEnc ∧ refusesOtherKinds .descIn .slotEnc ∧
  (∀ (t : Dtd) (s : State),
    exec (.slotEnc (.descIn (.detailedTiming t))) s = exec (.dtdEnc (.dtdIn t)) s) ∧
  (∀ raw : Bytes 18, encodesTo .slotEnc (.opaqueSlot raw) raw.toList) ∧
  (∀ (k : Fin 6) (d : Descriptor) (s : State),
    (∀ t, d ≠ .detailedTiming t) → (∀ raw, d ≠ .opaqueSlot raw) →
    ¬ endsWith registryEncInstrs[k] (.descIn d) .doesNotApply →
      exec (.slotEnc (.descIn d)) s = exec (registryEncInstrs[k] (.descIn d)) s) ∧
  ∀ d : Descriptor,
    (d.encodable = true → ∃ l : List Byte, l.length = 18 ∧ encodesTo .slotEnc d l) ∧
    (d.encodable = false → endsWith .slotEnc (.descIn d) .failMalformed)

/-- The laws R213 derives from R211 and R212: every slot survives a decode and an encode, and every descriptor SLOT_ENC
accepts survives an encode and a decode, but for an opaque one whose bytes SLOT_DEC reads as something else. -/
def Obligations.SlotRoundTrip : Prop :=
  (∀ l : List Byte, l.length = 18 → ∃ d : Descriptor, decodesTo .slotDec l d ∧ encodesTo .slotEnc d l) ∧
  ∀ (d : Descriptor) (l : List Byte), encodesTo .slotEnc d l →
    (∀ raw : Bytes 18, d = .opaqueSlot raw → decodesTo .slotDec raw.toList (.opaqueSlot raw)) →
    decodesTo .slotDec l d

/-! ## CVT generator -/

/-- When CVT_GEN has no timing to give, and which status it then gives: the checks of R243, the selector first, and the
bounds on the operands that follow from R244 and the domain errors of R246, R249 and R253. -/
def Obligations.CvtGenRefusesOutsideItsDomain : Prop :=
  opcodeRuns 0x50 .cvtGen ∧ refusesOtherKinds .cvtGenIn .cvtGen ∧
  ∀ a : CvtGenArgs,
    (3 < a.rb.toNat → endsWith .cvtGen (.cvtGenIn a) .usageError) ∧
    (a.rb = 0 → ¬ cvtStandardInDomain a → endsWith .cvtGen (.cvtGenIn a) .domainError) ∧
    (1 ≤ a.rb.toNat → a.rb.toNat ≤ 3 → ¬ cvtReducedInDomain a → endsWith .cvtGen (.cvtGenIn a) .domainError)

/-- The standard-blanking timing of R244 to R252 and R255, in closed form; for the total lines, the sum of the parts
that R252 derives. -/
def Obligations.CvtStandardBlankingFollowsTheFormula : Prop :=
  ∀ a : CvtGenArgs, a.rb = 0 → cvtStandardInDomain a →
    ∃ p : TimingParams, cvtAnswers a p ∧ cvtSharedFields a p ∧
      (let lines := p.vActive + 2 * p.vBorder
       let period := (1000000 / fieldRate a.interlaced a.refresh - 550) / (lines + 3 + halfLine a.interlaced)
       let duty := max 20 (30 - 300 * period / 1000)
       let width := p.hActive + 2 * p.hBorder
       p.vSync = cvtSyncByAspect a.vActive p.hActive ∧
       p.vSync + p.vBackPorch = max (((⌊550 / period⌋ : ℤ) : ℚ) + 1) (p.vSync + 6) ∧
       p.vFrontPorch = 3 ∧
       p.hBlank = 16 * ((⌊width * duty / (100 - duty) / 16⌋ : ℤ) : ℚ) ∧
       p.hSync = 8 * ((⌊p.hTotal / 100⌋ : ℤ) : ℚ) ∧
       p.hBackPorch = p.hBlank / 2 ∧
       p.hFrontPorch = p.hBlank / 2 - p.hSync ∧
       p.pixelClock = ((⌊4 * p.hTotal / period⌋ : ℤ) : ℚ) / 4 ∧
       p.hSyncPositive = false ∧ p.vSyncPositive = true)

/-- The reduced-blanking timing of R242, R244, R245 and R252 to R255, for each of the three sub-variants; for the total
lines, the sum of the parts that R252 derives. -/
def Obligations.CvtReducedBlankingFollowsTheFormula : Prop :=
  ∀ a : CvtGenArgs, 1 ≤ a.rb.toNat → a.rb.toNat ≤ 3 → cvtReducedInDomain a →
    ∃ p : TimingParams, cvtAnswers a p ∧ cvtSharedFields a p ∧
      (let lines := p.vActive + 2 * p.vBorder
       let rate := fieldRate a.interlaced a.refresh
       let vbi := ((⌊460 / ((1000000 / rate - 460) / lines)⌋ : ℤ) : ℚ) + 1
       p.hSyncPositive = true ∧ p.vSyncPositive = false ∧ p.hSync = 32 ∧
       (a.rb = 1 →
         p.hBlank = 160 ∧ p.hFrontPorch = 48 ∧ p.hBackPorch = 80 ∧
         p.vSync = cvtSyncByAspect a.vActive p.hActive ∧ p.vFrontPorch = 3 ∧
         p.vBlank = max vbi (3 + p.vSync + 6) ∧
         p.pixelClock = ((⌊rate * p.vTotal * p.hTotal / 1000000 * 4⌋ : ℤ) : ℚ) / 4) ∧
       (a.rb ≠ 1 →
         p.hBlank = 80 ∧ p.hFrontPorch = 8 ∧ p.hBackPorch = 40 ∧
         p.vSync = 8 ∧ p.vBackPorch = 6 ∧ p.vBlank = max vbi 15) ∧
       (a.rb = 2 → p.pixelClock = ((⌊rate * p.vTotal * p.hTotal / 1000⌋ : ℤ) : ℚ) / 1000) ∧
       (a.rb = 3 → p.pixelClock = ((⌊rate * p.vTotal * p.hTotal / 1001⌋ : ℤ) : ℚ) / 1000))

/-- The invariants of every timing CVT_GEN gives that R256 derives from R244 to R255. -/
def Obligations.CvtTimingsKeepTheInvariants : Prop :=
  ∀ a : CvtGenArgs,
    (a.rb = 0 ∧ cvtStandardInDomain a) ∨ (1 ≤ a.rb.toNat ∧ a.rb.toNat ≤ 3 ∧ cvtReducedInDomain a) →
    ∃ p : TimingParams, cvtAnswers a p ∧
      (∃ n : ℕ, p.hActive = 8 * n) ∧ p.hActive ≤ a.hActive ∧ (a.hActive : ℚ) < p.hActive + 8 ∧
      (a.rb = 0 → ∃ n : ℕ, p.hBlank = 16 * n) ∧ (a.rb ≠ 0 → p.hBlank = 160 ∨ p.hBlank = 80) ∧
      (a.rb.toNat ≤ 1 → ∃ n : ℕ, p.pixelClock = n / 4) ∧
      (2 ≤ a.rb.toNat → ∃ n : ℕ, p.pixelClock = n / 1000) ∧
      0 ≤ p.pixelClock ∧ 6 ≤ p.vBackPorch ∧ (2 ≤ a.rb.toNat → 1 ≤ p.vFrontPorch) ∧
      (p.hSyncPositive = true ↔ a.rb ≠ 0) ∧ (p.vSyncPositive = true ↔ a.rb = 0)

/-- The two 1920x1080 at 60 Hz timings that R258 derives from R240 to R255. -/
def Obligations.CvtFullHdReferenceTimings : Prop :=
  (∃ p, cvtAnswers { hActive := 1920, vActive := 1080, refresh := 60, rb := 0, interlaced := false, margins := false } p ∧
    p.hTotal = 2576 ∧ p.vTotal = 1120 ∧ p.pixelClock = 173) ∧
  ∃ p, cvtAnswers { hActive := 1920, vActive := 1080, refresh := 60, rb := 1, interlaced := false, margins := false } p ∧
    p.hTotal = 2080 ∧ p.vTotal = 1111 ∧ p.pixelClock = 277 / 2

/-- The document's reduced-blanking test, whose values R259 derives from R242, R254 and R255. -/
def Obligations.CvtReducedReferenceTiming : Prop :=
  ∃ p, cvtAnswers { hActive := 1280, vActive := 720, refresh := 60, rb := 1, interlaced := false, margins := false } p ∧
    p.hBlank = 160 ∧ p.hTotal = 1440 ∧ p.vTotal = 741 ∧ p.pixelClock = 64 ∧
    p.hSyncPositive = true ∧ p.vSyncPositive = false

/-! ## GTF generator -/

/-- When GTF_GEN has no timing to give: the check of R282, and the conditions on the operands that follow from R283 to R286,
the period R287 derives, and the domain errors of R284 and R289. -/
def Obligations.GtfGenRefusesOutsideItsDomain : Prop :=
  opcodeRuns 0x60 .gtfGen ∧ refusesOtherKinds .gtfGenIn .gtfGen ∧
  ∀ a : GtfGenArgs, ¬ gtfInDomain a → endsWith .gtfGen (.gtfGenIn a) .domainError

/-- The timing of R283 to R291 in closed form, for any value of the four tunable constants; the refined period makes the
field rate exactly the requested one, as R287 derives. -/
def Obligations.GtfFollowsTheFormula : Prop :=
  ∀ a : GtfGenArgs, gtfInDomain a →
    ∃ p : TimingParams, gtfAnswers a p ∧
      (let period := gtfExactPeriod a
       let duty := gtfExactDuty a
       let width := p.hActive + 2 * p.hBorder
       p.hActive = 8 * (((a.hActive + 4) / 8 : ℕ) : ℚ) ∧
       p.hBorder = (if a.margins then 8 * ((⌊p.hActive * (9 / 5) / 800 + 1 / 2⌋ : ℤ) : ℚ) else 0) ∧
       p.hBlank = 16 * ((⌊width * duty / (100 - duty) / 16 + 1 / 2⌋ : ℤ) : ℚ) ∧
       p.hTotal = width + p.hBlank ∧
       p.hSync = 8 * ((⌊p.hTotal / 100 + 1 / 2⌋ : ℤ) : ℚ) ∧
       p.hFrontPorch = p.hBlank / 2 - p.hSync ∧ p.hBackPorch = p.hBlank / 2 ∧
       p.vActive = gtfLines a ∧ p.vBorder = gtfTop a ∧
       p.vFrontPorch = 1 ∧ p.vSync = 3 ∧ p.vBackPorch = gtfSyncLines a - 3 ∧
       p.vBlank = gtfSyncLines a + 1 ∧ p.vTotal = gtfTotalLines a ∧
       p.pixelClock = p.hTotal / period ∧ p.hRate = 1000 / period ∧
       p.vFieldRate = fieldRate a.interlaced a.refresh ∧ p.vRate = a.refresh ∧
       p.interlaced = a.interlaced ∧ p.hSyncPositive = false ∧ p.vSyncPositive = true)

/-- The invariants of every timing GTF_GEN gives that R292 derives from R283 to R291. -/
def Obligations.GtfTimingsKeepTheInvariants : Prop :=
  ∀ a : GtfGenArgs, gtfInDomain a →
    ∃ p : TimingParams, gtfAnswers a p ∧
      (∃ n : ℕ, p.hActive = 8 * n) ∧ |p.hActive - a.hActive| ≤ 4 ∧
      (∃ n : ℤ, p.hBlank = 16 * n) ∧ p.vSync = 3 ∧
      p.vFieldRate = fieldRate a.interlaced a.refresh ∧
      p.hRate = 1000 / gtfExactPeriod a ∧
      p.pixelClock = p.hTotal * p.hRate / 1000 ∧
      p.hSyncPositive = false ∧ p.vSyncPositive = true

/-- The 640x480 at 60 Hz timing that R294 derives from R280 to R291, with the default constants. -/
def Obligations.GtfVgaReferenceTiming : Prop :=
  ∃ p, gtfAnswers { hActive := 640, vActive := 480, refresh := 60, interlaced := false, margins := false } p ∧
    p.hTotal = 800 ∧ p.hFrontPorch = 16 ∧ p.hSync = 64 ∧ p.hBackPorch = 80 ∧
    p.vTotal = 497 ∧ p.vFrontPorch = 1 ∧ p.vSync = 3 ∧ p.vBackPorch = 13 ∧
    p.pixelClock = 2982 / 125 ∧ p.hRate = 1491 / 50
end

