-- ==== Sys2Proof/Laws/Arith.lean ====
section
/-! SUPPORT. Under the exact arithmetic, which this hardware takes, each operation of the generators is the operation of ℚ. -/

namespace Sys2Proof

@[simp] theorem exact_lit (x : ℚ) : exactArithmetic.lit x = x := rfl
@[simp] theorem exact_add (x y : ℚ) : exactArithmetic.add x y = x + y := rfl
@[simp] theorem exact_sub (x y : ℚ) : exactArithmetic.sub x y = x - y := rfl
@[simp] theorem exact_mul (x y : ℚ) : exactArithmetic.mul x y = x * y := rfl
@[simp] theorem exact_div (x y : ℚ) : exactArithmetic.div x y = x / y := rfl
@[simp] theorem exact_floor (x : ℚ) : exactArithmetic.floor x = floorQ x := rfl
@[simp] theorem exact_round (x : ℚ) : exactArithmetic.round x = roundQ x := rfl
@[simp] theorem exact_lt (x y : ℚ) : exactArithmetic.lt x y = decide (x < y) := rfl
@[simp] theorem exact_le (x y : ℚ) : exactArithmetic.le x y = decide (x ≤ y) := rfl
@[simp] theorem exact_eq (x y : ℚ) : exactArithmetic.eq x y = decide (x = y) := rfl
@[simp] theorem exact_out (f : TimingField) (x : ℚ) : exactArithmetic.out f x = x := rfl

theorem floorQ_le (x : ℚ) : floorQ x ≤ x := Int.floor_le x

theorem lt_floorQ_add_one (x : ℚ) : x < floorQ x + 1 := Int.lt_floor_add_one x

/-- R11: `round` differs from its argument by at most a half, and takes a half up. -/
theorem roundQ_bounds (x : ℚ) : x - 1 / 2 < roundQ x ∧ roundQ x ≤ x + 1 / 2 := by
  have h1 := floorQ_le (x + 1 / 2)
  have h2 := lt_floorQ_add_one (x + 1 / 2)
  unfold roundQ
  constructor <;> linarith

namespace Machine

@[simp] theorem unitConfig_genArith : unitConfig.genArith = .exact := rfl
@[simp] theorem unitConfig_aspectMatch : unitConfig.aspectMatch = .exact := rfl
@[simp] theorem unitConfig_stdRefreshBits : unitConfig.stdRefreshBits = .five := rfl
@[simp] theorem unitConfig_chkMaxLen : unitConfig.chkMaxLen = none := rfl
@[simp] theorem unitConfig_genDimMax : unitConfig.genDimMax = none := rfl

/-- CVT_GEN of this hardware, in exact arithmetic. -/
@[simp] theorem cvtGenerate_unit (a : CvtGenArgs) :
    cvtGenerate unitConfig a = cvtGenerateIn exactArithmetic .exact a := rfl

/-- GTF_GEN of this hardware, in exact arithmetic. -/
@[simp] theorem gtfGenerate_unit (a : GtfGenArgs) : gtfGenerate unitConfig a = gtfGenerateIn exactArithmetic a := rfl

/-- This hardware bounds no dimension (R6). -/
@[simp] theorem checkDimensions_unit (h v : Nat) : checkDimensions unitConfig h v = .ok () := rfl

end Machine

end Sys2Proof
end

