-- ==== Sys2Proof/Laws/State.lean ====
section
/-! SUPPORT. One lemma per field per update of the state. -/

namespace Sys2Proof.Machine

@[simp] theorem deliver_pending (a : Answer) (s : State) : (deliver a s).pending = s.pending := rfl
@[simp] theorem deliver_responses (a : Answer) (s : State) :
    (deliver a s).responses = s.responses ++ [responseOf a] := rfl

@[simp] theorem hostIssue_pending (r : Request) (s : State) : (hostIssue r s).pending = s.pending ++ [r] := rfl
@[simp] theorem hostIssue_responses (r : Request) (s : State) : (hostIssue r s).responses = s.responses := rfl

@[simp] theorem hostReset_pending (s : State) : (hostReset s).pending = [] := rfl
@[simp] theorem hostReset_responses (s : State) : (hostReset s).responses = s.responses := rfl

@[simp] theorem putInFlight_pending (r : Request) (s : State) : (putInFlight r s).pending = r :: s.pending := rfl
@[simp] theorem putInFlight_responses (r : Request) (s : State) : (putInFlight r s).responses = s.responses := rfl

@[simp] theorem withFetchWord_pending (s : State) (nbits w : Nat) :
    (s.withFetchWord nbits w).pending = tableRequest nbits w :: s.pending := rfl
@[simp] theorem withFetchWord_responses (s : State) (nbits w : Nat) :
    (s.withFetchWord nbits w).responses = s.responses := rfl

@[simp] theorem reset_pending : State.reset.pending = [] := rfl
@[simp] theorem reset_responses : State.reset.responses = [] := rfl

@[simp] theorem takeRequest_nil (rs : List Response) :
    takeRequest { pending := [], responses := rs } = none := rfl
@[simp] theorem takeRequest_cons (r : Request) (rest : List Request) (rs : List Response) :
    takeRequest { pending := r :: rest, responses := rs } = some (r, { pending := rest, responses := rs }) := rfl

end Sys2Proof.Machine
end

