-- ==== Sys2Proof/Laws/Ops.lean ====
section
/-! SUPPORT. What the shared operations do, said once: how an answer becomes a response, what `step` can do, and that every
instruction is its answer delivered. -/

namespace Sys2Proof.Machine

@[simp] theorem responseOf_ok (r : Result) : responseOf (.ok r) = { status := .ok, result := some r } := rfl
@[simp] theorem responseOf_error (e : Status) : responseOf (.error e) = { status := e, result := none } := rfl
@[simp] theorem raise_eq {α : Type} (e : Status) : (raise e : Except Status α) = .error e := rfl

/-- All that `respond` does: it goes on, with one response more. -/
theorem respond_eq (a : Answer) (s : State) :
    respond a s = .next { pending := s.pending, responses := s.responses ++ [responseOf a] } := rfl

theorem respond_ok (r : Result) (s : State) : respond (.ok r) s = .next (withResponse s .ok (some r)) := rfl

theorem respond_error (e : Status) (s : State) : respond (.error e) s = .next (withResponse s e none) := rfl

/-- Every instruction is its answer, delivered. -/
theorem exec_eq_respond (i : Instr) (s : State) : exec i s = respond (answerOf unitConfig i) s := by
  cases i <;> rfl

/-- With no request issued, a step changes nothing. -/
theorem step_idle (s : State) (h : s.pending = []) : step s = .next s := by
  obtain ⟨p, rs⟩ := s
  subst h
  rfl

/-- With a request in flight, a step serves it. -/
theorem step_serves (s : State) (r : Request) (rest : List Request) (h : s.pending = r :: rest) :
    step s = serve r { pending := rest, responses := s.responses } := by
  obtain ⟨p, rs⟩ := s
  subst h
  rfl

/-- All that serving a request does: its response joins the responses. -/
theorem serve_eq (r : Request) (s : State) :
    serve r s = .next { pending := s.pending, responses := s.responses ++ [responseTo r] } := by
  unfold serve responseTo
  cases decode r with
  | error e => rfl
  | ok i => exact exec_eq_respond i s

/-- What a step can do: nothing when idle, else answer the oldest request. -/
theorem step_cases (s : State) :
    (s.pending = [] ∧ step s = .next s) ∨
      ∃ r rest, s.pending = r :: rest ∧
        step s = .next { pending := rest, responses := s.responses ++ [responseTo r] } := by
  cases h : s.pending with
  | nil => exact .inl ⟨rfl, step_idle s h⟩
  | cons r rest => exact .inr ⟨r, rest, rfl, by rw [step_serves s r rest h, serve_eq]⟩

/-- An outcome of an instruction names one answer: a claim about `exec` on every state is a claim about `answerOf`. -/
theorem exec_withResponse_iff (i : Instr) (s : State) (status : Status) (result : Option Result) :
    exec i s = .next (withResponse s status result) ↔
      responseOf (answerOf unitConfig i) = { status := status, result := result } := by
  rw [exec_eq_respond, respond_eq]
  simp [withResponse]

theorem decodesTo_iff (instr : Operand → Instr) (l : List Byte) (d : Descriptor) :
    decodesTo instr l d ↔
      responseOf (answerOf unitConfig (instr (.bytes l))) = { status := .ok, result := some (.desc d) } :=
  ⟨fun h => (exec_withResponse_iff _ _ _ _).1 (h State.reset), fun h s => (exec_withResponse_iff _ s _ _).2 h⟩

theorem encodesTo_iff (instr : Operand → Instr) (d : Descriptor) (l : List Byte) :
    encodesTo instr d l ↔
      responseOf (answerOf unitConfig (instr (.descIn d))) = { status := .ok, result := some (.bytes l) } :=
  ⟨fun h => (exec_withResponse_iff _ _ _ _).1 (h State.reset), fun h s => (exec_withResponse_iff _ s _ _).2 h⟩

theorem endsWith_iff (instr : Operand → Instr) (o : Operand) (st : Status) :
    endsWith instr o st ↔ responseOf (answerOf unitConfig (instr o)) = { status := st, result := none } :=
  ⟨fun h => (exec_withResponse_iff _ _ _ _).1 (h State.reset), fun h s => (exec_withResponse_iff _ s _ _).2 h⟩

end Sys2Proof.Machine
end

