-- ==== Sys2Proof/Laws/Operands.lean ====
section
/-! SUPPORT. What reading an operand can answer. -/

namespace Sys2Proof.Machine

@[simp] theorem bytesOperand_bytes (b : List Byte) : bytesOperand (.bytes b) = .ok b := rfl
@[simp] theorem stdOperand_stdIn (t : Option StdTiming) : stdOperand (.stdIn t) = .ok t := rfl
@[simp] theorem cvt3Operand_cvt3In (c : CvtCode) : cvt3Operand (.cvt3In c) = .ok c := rfl
@[simp] theorem dtdOperand_dtdIn (d : Dtd) : dtdOperand (.dtdIn d) = .ok d := rfl
@[simp] theorem descOperand_descIn (d : Descriptor) : descOperand (.descIn d) = .ok d := rfl
@[simp] theorem cvtGenOperand_cvtGenIn (g : CvtGenArgs) : cvtGenOperand (.cvtGenIn g) = .ok g := rfl
@[simp] theorem gtfGenOperand_gtfGenIn (g : GtfGenArgs) : gtfGenOperand (.gtfGenIn g) = .ok g := rfl

theorem bytesOperand_other (o : Operand) (h : o.kind ≠ .bytes) : bytesOperand o = .error .failMalformed := by
  cases o <;> simp_all [Operand.kind, bytesOperand]

theorem stdOperand_other (o : Operand) (h : o.kind ≠ .stdIn) : stdOperand o = .error .failMalformed := by
  cases o <;> simp_all [Operand.kind, stdOperand]

theorem cvt3Operand_other (o : Operand) (h : o.kind ≠ .cvt3In) : cvt3Operand o = .error .failMalformed := by
  cases o <;> simp_all [Operand.kind, cvt3Operand]

theorem dtdOperand_other (o : Operand) (h : o.kind ≠ .dtdIn) : dtdOperand o = .error .failMalformed := by
  cases o <;> simp_all [Operand.kind, dtdOperand]

theorem descOperand_other (o : Operand) (h : o.kind ≠ .descIn) : descOperand o = .error .failMalformed := by
  cases o <;> simp_all [Operand.kind, descOperand]

theorem cvtGenOperand_other (o : Operand) (h : o.kind ≠ .cvtGenIn) : cvtGenOperand o = .error .failMalformed := by
  cases o <;> simp_all [Operand.kind, cvtGenOperand]

theorem gtfGenOperand_other (o : Operand) (h : o.kind ≠ .gtfGenIn) : gtfGenOperand o = .error .failMalformed := by
  cases o <;> simp_all [Operand.kind, gtfGenOperand]

/-- A string of the right length reads as the bytes themselves. -/
theorem bytesOperandOf_toList {n : Nat} (b : Bytes n) : bytesOperandOf n (.bytes b.toList) = .ok b := by
  obtain ⟨a, h⟩ := b
  simp [bytesOperandOf, toBytes, Vector.toList, h]

theorem bytesOperandOf_length (n : Nat) (l : List Byte) (h : l.length = n) :
    ∃ b : Bytes n, b.toList = l ∧ bytesOperandOf n (.bytes l) = .ok b := by
  subst h
  exact ⟨⟨l.toArray, by simp⟩, by simp [Vector.toList], by simp [bytesOperandOf, toBytes]⟩

theorem bytesOperandOf_otherLength (n : Nat) (l : List Byte) (h : l.length ≠ n) :
    bytesOperandOf n (.bytes l) = .error .failLength := by
  simp [bytesOperandOf, toBytes, h]

theorem bytesOperandOf_other (n : Nat) (o : Operand) (h : o.kind ≠ .bytes) :
    bytesOperandOf n o = .error .failMalformed := by
  simp [bytesOperandOf, bytesOperand_other o h]

end Sys2Proof.Machine
end

