-- ==== Sys2Proof/Laws/PerInstr.lean ====
section
/-! SUPPORT. Per-instruction laws about instructions as syntax (LAWS.json). -/

-- Many small theorems: elaborated one after the other, so that few of Lean's threads are alive at once.
set_option Elab.async false

namespace Sys2Proof.Laws

/-- R81, R85: the request of an instruction carries the op code that the op-code map gives its mnemonic, and the
instruction's own operand. -/
def OpcodeAssigned.Statement (i : Instr) : Prop :=
  (i.mnemonic, (encode i).op) ∈ opcodeMap ∧ (encode i).operand = i.operand

theorem OpcodeAssigned.chkCompute (o : Operand) : OpcodeAssigned.Statement (.chkCompute o) :=
  ⟨by simp [opcodeMap, encode, Instr.opcode, Instr.mnemonic], rfl⟩

theorem OpcodeAssigned.chkValidate (o : Operand) : OpcodeAssigned.Statement (.chkValidate o) :=
  ⟨by simp [opcodeMap, encode, Instr.opcode, Instr.mnemonic], rfl⟩

theorem OpcodeAssigned.chkSeal (o : Operand) : OpcodeAssigned.Statement (.chkSeal o) :=
  ⟨by simp [opcodeMap, encode, Instr.opcode, Instr.mnemonic], rfl⟩

theorem OpcodeAssigned.stdDec (o : Operand) : OpcodeAssigned.Statement (.stdDec o) :=
  ⟨by simp [opcodeMap, encode, Instr.opcode, Instr.mnemonic], rfl⟩

theorem OpcodeAssigned.stdEnc (o : Operand) : OpcodeAssigned.Statement (.stdEnc o) :=
  ⟨by simp [opcodeMap, encode, Instr.opcode, Instr.mnemonic], rfl⟩

theorem OpcodeAssigned.cvt3Dec (o : Operand) : OpcodeAssigned.Statement (.cvt3Dec o) :=
  ⟨by simp [opcodeMap, encode, Instr.opcode, Instr.mnemonic], rfl⟩

theorem OpcodeAssigned.cvt3Enc (o : Operand) : OpcodeAssigned.Statement (.cvt3Enc o) :=
  ⟨by simp [opcodeMap, encode, Instr.opcode, Instr.mnemonic], rfl⟩

theorem OpcodeAssigned.dtdDec (o : Operand) : OpcodeAssigned.Statement (.dtdDec o) :=
  ⟨by simp [opcodeMap, encode, Instr.opcode, Instr.mnemonic], rfl⟩

theorem OpcodeAssigned.dtdEnc (o : Operand) : OpcodeAssigned.Statement (.dtdEnc o) :=
  ⟨by simp [opcodeMap, encode, Instr.opcode, Instr.mnemonic], rfl⟩

theorem OpcodeAssigned.slotDec (o : Operand) : OpcodeAssigned.Statement (.slotDec o) :=
  ⟨by simp [opcodeMap, encode, Instr.opcode, Instr.mnemonic], rfl⟩

theorem OpcodeAssigned.slotEnc (o : Operand) : OpcodeAssigned.Statement (.slotEnc o) :=
  ⟨by simp [opcodeMap, encode, Instr.opcode, Instr.mnemonic], rfl⟩

theorem OpcodeAssigned.regDecDummy (o : Operand) : OpcodeAssigned.Statement (.regDecDummy o) :=
  ⟨by simp [opcodeMap, encode, Instr.opcode, Instr.mnemonic], rfl⟩

theorem OpcodeAssigned.regEncDummy (o : Operand) : OpcodeAssigned.Statement (.regEncDummy o) :=
  ⟨by simp [opcodeMap, encode, Instr.opcode, Instr.mnemonic], rfl⟩

theorem OpcodeAssigned.regDecSerial (o : Operand) : OpcodeAssigned.Statement (.regDecSerial o) :=
  ⟨by simp [opcodeMap, encode, Instr.opcode, Instr.mnemonic], rfl⟩

theorem OpcodeAssigned.regEncSerial (o : Operand) : OpcodeAssigned.Statement (.regEncSerial o) :=
  ⟨by simp [opcodeMap, encode, Instr.opcode, Instr.mnemonic], rfl⟩

theorem OpcodeAssigned.regDecAlnum (o : Operand) : OpcodeAssigned.Statement (.regDecAlnum o) :=
  ⟨by simp [opcodeMap, encode, Instr.opcode, Instr.mnemonic], rfl⟩

theorem OpcodeAssigned.regEncAlnum (o : Operand) : OpcodeAssigned.Statement (.regEncAlnum o) :=
  ⟨by simp [opcodeMap, encode, Instr.opcode, Instr.mnemonic], rfl⟩

theorem OpcodeAssigned.regDecRange (o : Operand) : OpcodeAssigned.Statement (.regDecRange o) :=
  ⟨by simp [opcodeMap, encode, Instr.opcode, Instr.mnemonic], rfl⟩

theorem OpcodeAssigned.regEncRange (o : Operand) : OpcodeAssigned.Statement (.regEncRange o) :=
  ⟨by simp [opcodeMap, encode, Instr.opcode, Instr.mnemonic], rfl⟩

theorem OpcodeAssigned.regDecName (o : Operand) : OpcodeAssigned.Statement (.regDecName o) :=
  ⟨by simp [opcodeMap, encode, Instr.opcode, Instr.mnemonic], rfl⟩

theorem OpcodeAssigned.regEncName (o : Operand) : OpcodeAssigned.Statement (.regEncName o) :=
  ⟨by simp [opcodeMap, encode, Instr.opcode, Instr.mnemonic], rfl⟩

theorem OpcodeAssigned.regDecEt3 (o : Operand) : OpcodeAssigned.Statement (.regDecEt3 o) :=
  ⟨by simp [opcodeMap, encode, Instr.opcode, Instr.mnemonic], rfl⟩

theorem OpcodeAssigned.regEncEt3 (o : Operand) : OpcodeAssigned.Statement (.regEncEt3 o) :=
  ⟨by simp [opcodeMap, encode, Instr.opcode, Instr.mnemonic], rfl⟩

theorem OpcodeAssigned.cvtGen (o : Operand) : OpcodeAssigned.Statement (.cvtGen o) :=
  ⟨by simp [opcodeMap, encode, Instr.opcode, Instr.mnemonic], rfl⟩

theorem OpcodeAssigned.gtfGen (o : Operand) : OpcodeAssigned.Statement (.gtfGen o) :=
  ⟨by simp [opcodeMap, encode, Instr.opcode, Instr.mnemonic], rfl⟩

end Sys2Proof.Laws
end

