-- ==== Sys2Proof/Machine/Assembler.lean ====
section
/-! DEFINITION. The assembler syntax of spec/30_encoding.md R84, with R85: a line of characters to the request it names. The unit never
sees it: it is the notation of the host's programs. Where R84's grammar and the
spec's own lines leave a form open, log entry 8 says what this reader takes (DESIGN CHOICE). -/

namespace Sys2Proof.Machine

/-! ## Tokens -/

inductive AsmToken where
  | word (w : List Char)
  | num (q : ℚ)
  | str (b : List Byte)
  | sym (c : Char)
  deriving DecidableEq, Repr

/-- The two braces, which no literal of this package may hold. -/
def openBrace : Char := Char.ofNat 123
def closeBrace : Char := Char.ofNat 125

def isWordStart (c : Char) : Bool := c.isAlpha || c == '_'
def isWordChar (c : Char) : Bool := c.isAlphanum || c == '_'

/-- The value of a digit below `base`. -/
def digitValue (base : Nat) (c : Char) : Option Nat :=
  let n := c.toNat
  let v :=
    if 48 ≤ n ∧ n ≤ 57 then n - 48
    else if 65 ≤ n ∧ n ≤ 70 then n - 55
    else if 97 ≤ n ∧ n ≤ 102 then n - 87
    else base
  if v < base then some v else none

/-- The natural number a run of characters spells in `base`. -/
def digitsValue (base : Nat) (acc : Nat) (cs : List Char) : Option Nat :=
  match cs with
  | [] => some acc
  | c :: rest =>
    match digitValue base c with
    | some v => digitsValue base (acc * base + v) rest
    | none => none

/-- A number: `0x` hexadecimal, `0b` binary, or decimal. -/
def naturalOf (cs : List Char) : Option Nat :=
  match cs with
  | [] => none
  | '0' :: 'x' :: d :: ds => digitsValue 16 0 (d :: ds)
  | '0' :: 'b' :: d :: ds => digitsValue 2 0 (d :: ds)
  | d :: ds => digitsValue 10 0 (d :: ds)

/-- The characters of a numeral. -/
def isNumberChar (c : Char) : Bool := isWordChar c || c == '.'

/-- `number` of R84, which gives it no form (log entry 8): a natural number, or decimal digits with a point among them. -/
def numberOf (cs : List Char) : Option ℚ :=
  match cs.dropWhile (· != '.') with
  | [] => (naturalOf cs).map fun n => (n : ℚ)
  | _ :: ds =>
    match digitsValue 10 0 (cs.takeWhile (· != '.')), digitsValue 10 0 ds with
    | some n, some f => if ds.isEmpty then none else some (n + f / 10 ^ ds.length)
    | _, _ => none

/-- A string's characters as bytes, one per Latin-1 character. -/
def latin1 (cs : List Char) : Option (List Byte) :=
  if cs.all (fun c => c.toNat < 256) then some (cs.map fun c => BitVec.ofNat 8 c.toNat) else none

/-- Tokens of a line. A comment, from `;`, ends it. The fuel is the number of characters. -/
def asmTokens (fuel : Nat) (cs : List Char) : Option (List AsmToken) :=
  match fuel with
  | 0 => if cs.isEmpty then some [] else none
  | fuel + 1 =>
    match cs with
    | [] => some []
    | c :: rest =>
      if c == ' ' then asmTokens fuel rest
      else if c == ';' then some []
      else if c == '"' then
        match rest.dropWhile (· != '"') with
        | [] => none
        | _ :: rest' =>
          match latin1 (rest.takeWhile (· != '"')) with
          | some b => (asmTokens fuel rest').map (AsmToken.str b :: ·)
          | none => none
      else if isWordStart c then
        (asmTokens fuel (rest.dropWhile isWordChar)).map (AsmToken.word (c :: rest.takeWhile isWordChar) :: ·)
      else if c.isDigit then
        match numberOf (c :: rest.takeWhile isNumberChar) with
        | some q => (asmTokens fuel (rest.dropWhile isNumberChar)).map (AsmToken.num q :: ·)
        | none => none
      else (asmTokens fuel rest).map (AsmToken.sym c :: ·)

/-! ## Values -/

inductive AsmValue where
  | num (q : ℚ)
  | bool (b : Bool)
  | absent
  | present (v : AsmValue)
  | bytes (b : List Byte)
  | tag (t : List Char)
  | tagged (t : List Char) (v : AsmValue)
  | record (t : Option (List Char)) (fields : List (List Char × AsmValue))

/-- The bytes of a list `[h, h, ...]` after its bracket. -/
def asmBytes (ts : List AsmToken) : Option (List Byte × List AsmToken) :=
  match ts with
  | .num q :: .sym ']' :: rest =>
    if q.den = 1 ∧ 0 ≤ q.num ∧ q.num < 256 then some ([BitVec.ofNat 8 q.num.toNat], rest) else none
  | .num q :: .sym ',' :: rest =>
    if q.den = 1 ∧ 0 ≤ q.num ∧ q.num < 256 then
      (asmBytes rest).map fun p => (BitVec.ofNat 8 q.num.toNat :: p.1, p.2)
    else none
  | _ => none

/-- `field = value, ...` up to the closing brace, given the parser of a value. -/
def asmFields (value : List AsmToken → Option (AsmValue × List AsmToken)) (fuel : Nat) (ts : List AsmToken) :
    Option (List (List Char × AsmValue) × List AsmToken) :=
  match fuel, ts with
  | fuel + 1, .word name :: .sym '=' :: rest =>
    match value rest with
    | some (v, .sym c :: rest') =>
      if c = closeBrace then some ([(name, v)], rest')
      else if c = ',' then (asmFields value fuel rest').map fun p => ((name, v) :: p.1, p.2)
      else none
    | _ => none
  | _, _ => none

/-- A number after its first part: an optional denominator. One of 0 is left over, and the line is refused. -/
def asmFraction (q : ℚ) (ts : List AsmToken) : AsmValue × List AsmToken :=
  match ts with
  | .sym '/' :: .num d :: rest => if d = 0 then (.num q, ts) else (.num (q / d), rest)
  | _ => (.num q, ts)

/-- `value` of R84. The fuel bounds the nesting. -/
def asmValue (fuel : Nat) (ts : List AsmToken) : Option (AsmValue × List AsmToken) :=
  match fuel with
  | 0 => none
  | fuel + 1 =>
    match ts with
    | .num q :: rest => some (asmFraction q rest)
    | .sym '-' :: .num q :: rest => some (asmFraction (-q) rest)
    | .str b :: rest => some (.bytes b, rest)
    | .sym '[' :: .sym ']' :: rest => some (.bytes [], rest)
    | .sym '[' :: rest => (asmBytes rest).map fun p => (.bytes p.1, p.2)
    | .word w :: rest =>
      if w = "true".toList then some (.bool true, rest)
      else if w = "false".toList then some (.bool false, rest)
      else if w = "none".toList then some (.absent, rest)
      else if w = "some".toList then (asmValue fuel rest).map fun p => (.present p.1, p.2)
      else
        match rest with
        | .str b :: rest' => some (.tagged w (.bytes b), rest')
        | .sym '[' :: _ => (asmValue fuel rest).map fun p => (.tagged w p.1, p.2)
        | .sym c :: .str b :: .sym d :: rest' =>
          if c = openBrace ∧ d = closeBrace then some (.tagged w (.bytes b), rest') else some (.tag w, rest)
        | .sym c :: rest' =>
          if c = openBrace then (asmFields (asmValue fuel) ts.length rest').map fun p => (.record (some w) p.1, p.2)
          else some (.tag w, rest)
        | _ => some (.tag w, rest)
    | .sym c :: rest =>
      if c = openBrace then (asmFields (asmValue fuel) ts.length rest).map fun p => (.record none p.1, p.2) else none
    | [] => none

/-! ## Values as the record types of spec/10_state.md section 3 -/

def AsmValue.rational? (v : AsmValue) : Option ℚ :=
  match v with
  | .num q => some q
  | _ => none

def AsmValue.natural? (v : AsmValue) : Option Nat :=
  match v with
  | .num q => if q.den = 1 ∧ 0 ≤ q.num then some q.num.toNat else none
  | _ => none

/-- An unsigned field of width `w`: the value must fit. -/
def AsmValue.word? (w : Nat) (v : AsmValue) : Option (BitVec w) :=
  match v.natural? with
  | some n => if n < 2 ^ w then some (BitVec.ofNat w n) else none
  | none => none

def AsmValue.bool? (v : AsmValue) : Option Bool :=
  match v with
  | .bool b => some b
  | _ => none

def AsmValue.optionBool? (v : AsmValue) : Option (Option Bool) :=
  match v with
  | .absent => some none
  | .present (.bool b) => some (some b)
  | _ => none

def AsmValue.bytes? (v : AsmValue) : Option (List Byte) :=
  match v with
  | .bytes b => some b
  | _ => none

def AsmValue.bytesOf? (n : Nat) (v : AsmValue) : Option (Bytes n) :=
  match v with
  | .bytes b => toBytes n b
  | _ => none

/-- A record's fields, when each name is one of `names` and none stands twice. -/
def AsmValue.fields? (t : Option String) (names : List String) (v : AsmValue) : Option (List (List Char × AsmValue)) :=
  match v with
  | .record t' fs =>
    if t' = t.map String.toList ∧ (fs.map (·.1)).Nodup ∧ fs.all (fun f => (names.map String.toList).contains f.1) then some fs
    else none
  | _ => none

/-- The value of the field `name`, read by `f`. -/
def asmField {α : Type} (fs : List (List Char × AsmValue)) (name : String) (f : AsmValue → Option α) : Option α :=
  match fs.find? (fun p => p.1 = name.toList) with
  | some p => f p.2
  | none => none

/-- The same for a field that may be left out. -/
def asmFieldOr {α : Type} (fs : List (List Char × AsmValue)) (name : String) (f : AsmValue → Option α) (d : α) :
    Option α :=
  match fs.find? (fun p => p.1 = name.toList) with
  | some p => f p.2
  | none => some d

def asmStdTiming (v : AsmValue) : Option StdTiming := do
  let fs ← v.fields? none ["h_active8", "aspect", "refresh"]
  let hActive8 ← asmField fs "h_active8" AsmValue.natural?
  let aspect ← asmField fs "aspect" (AsmValue.word? 2)
  let refresh ← asmField fs "refresh" AsmValue.natural?
  some { hActive8 := hActive8, aspect := aspect, refresh := refresh }

def asmCvtCode (v : AsmValue) : Option CvtCode := do
  let fs ← v.fields? none ["v_active", "aspect", "rsv_a", "rsv_b", "pref_rate", "rates"]
  let vActive ← asmField fs "v_active" AsmValue.natural?
  let aspect ← asmField fs "aspect" (AsmValue.word? 2)
  let rsvA ← asmField fs "rsv_a" (AsmValue.word? 2)
  let rsvB ← asmField fs "rsv_b" (AsmValue.word? 1)
  let prefRate ← asmField fs "pref_rate" (AsmValue.word? 2)
  let rates ← asmField fs "rates" (AsmValue.word? 5)
  some { vActive := vActive, aspect := aspect, rsvA := rsvA, prefRate := prefRate, rates := rates, rsvB := rsvB }

def asmAnalog (v : AsmValue) : Option Sync := do
  let fs ← v.fields? (some "Analog") ["bipolar", "serrations", "sync_on_green"]
  let bipolar ← asmField fs "bipolar" AsmValue.bool?
  let serrations ← asmField fs "serrations" AsmValue.bool?
  let syncOnGreen ← asmField fs "sync_on_green" AsmValue.bool?
  some (.analog bipolar serrations syncOnGreen)

def asmDigital (v : AsmValue) : Option Sync := do
  let fs ← v.fields? (some "Digital") ["composite", "serrations", "v_sync_positive", "h_sync_positive"]
  let composite ← asmField fs "composite" AsmValue.bool?
  let serrations ← asmField fs "serrations" AsmValue.optionBool?
  let vSyncPositive ← asmField fs "v_sync_positive" AsmValue.optionBool?
  let hSyncPositive ← asmField fs "h_sync_positive" AsmValue.bool?
  some (.digital composite serrations vSyncPositive hSyncPositive)

def asmSync (v : AsmValue) : Option Sync :=
  match asmAnalog v with
  | some y => some y
  | none => asmDigital v

/-- The fields of R31, under an optional tag. -/
def asmDtd (t : Option String) (v : AsmValue) : Option Dtd := do
  let fs ← v.fields? t
    ["pixel_clock", "h_active", "h_blank", "v_active", "v_blank", "h_front_porch", "h_sync_width", "v_front_porch",
     "v_sync_width", "h_size_mm", "v_size_mm", "h_border", "v_border", "interlaced", "stereo", "sync"]
  let pixelClock ← asmField fs "pixel_clock" (AsmValue.word? 16)
  let hActive ← asmField fs "h_active" (AsmValue.word? 12)
  let hBlank ← asmField fs "h_blank" (AsmValue.word? 12)
  let vActive ← asmField fs "v_active" (AsmValue.word? 12)
  let vBlank ← asmField fs "v_blank" (AsmValue.word? 12)
  let hFrontPorch ← asmField fs "h_front_porch" (AsmValue.word? 10)
  let hSyncWidth ← asmField fs "h_sync_width" (AsmValue.word? 10)
  let vFrontPorch ← asmField fs "v_front_porch" (AsmValue.word? 6)
  let vSyncWidth ← asmField fs "v_sync_width" (AsmValue.word? 6)
  let hSizeMm ← asmField fs "h_size_mm" (AsmValue.word? 12)
  let vSizeMm ← asmField fs "v_size_mm" (AsmValue.word? 12)
  let hBorder ← asmField fs "h_border" (AsmValue.word? 8)
  let vBorder ← asmField fs "v_border" (AsmValue.word? 8)
  let interlaced ← asmField fs "interlaced" AsmValue.bool?
  let stereo ← asmField fs "stereo" (AsmValue.word? 3)
  let sync ← asmField fs "sync" asmSync
  some
    { pixelClock := pixelClock, hActive := hActive, hBlank := hBlank, vActive := vActive, vBlank := vBlank
      hFrontPorch := hFrontPorch, hSyncWidth := hSyncWidth, vFrontPorch := vFrontPorch, vSyncWidth := vSyncWidth
      hSizeMm := hSizeMm, vSizeMm := vSizeMm, hBorder := hBorder, vBorder := vBorder, interlaced := interlaced
      stereo := stereo, sync := sync }

def asmPlain (v : AsmValue) : Option DrlTiming := do
  let fs ← v.fields? (some "Plain") ["selector", "raw"]
  let selector ← asmField fs "selector" (AsmValue.word? 8)
  let raw ← asmField fs "raw" (AsmValue.bytesOf? 7)
  some (.plain selector raw)

def asmSecondaryGtf (v : AsmValue) : Option DrlTiming := do
  let fs ← v.fields? (some "SecondaryGtf") ["rsv", "h_break2", "c2", "m", "k", "j2"]
  let rsv ← asmField fs "rsv" (AsmValue.word? 8)
  let hBreak2 ← asmField fs "h_break2" (AsmValue.word? 8)
  let c2 ← asmField fs "c2" (AsmValue.word? 8)
  let m ← asmField fs "m" (AsmValue.word? 16)
  let k ← asmField fs "k" (AsmValue.word? 8)
  let j2 ← asmField fs "j2" (AsmValue.word? 8)
  some (.secondaryGtf { rsv := rsv, hBreak2 := hBreak2, c2 := c2, m := m, k := k, j2 := j2 })

def asmCvtSupport (v : AsmValue) : Option DrlTiming := do
  let fs ← v.fields? (some "CvtSupport")
    ["version", "pclk_offset", "max_active8", "aspects", "aspects_rsv", "pref_aspect", "rb_supported",
     "std_supported", "blank_rsv", "scaling", "scaling_rsv", "pref_v_rate"]
  let version ← asmField fs "version" (AsmValue.word? 8)
  let pclkOffset ← asmField fs "pclk_offset" (AsmValue.word? 6)
  let maxActive8 ← asmField fs "max_active8" (AsmValue.word? 10)
  let aspects ← asmField fs "aspects" (AsmValue.word? 5)
  let aspectsRsv ← asmField fs "aspects_rsv" (AsmValue.word? 3)
  let prefAspect ← asmField fs "pref_aspect" (AsmValue.word? 3)
  let rbSupported ← asmField fs "rb_supported" AsmValue.bool?
  let stdSupported ← asmField fs "std_supported" AsmValue.bool?
  let blankRsv ← asmField fs "blank_rsv" (AsmValue.word? 3)
  let scaling ← asmField fs "scaling" (AsmValue.word? 4)
  let scalingRsv ← asmField fs "scaling_rsv" (AsmValue.word? 4)
  let prefVRate ← asmField fs "pref_v_rate" (AsmValue.word? 8)
  some (.cvtSupport
    { version := version, pclkOffset := pclkOffset, maxActive8 := maxActive8, aspects := aspects
      aspectsRsv := aspectsRsv, prefAspect := prefAspect, rbSupported := rbSupported, stdSupported := stdSupported
      blankRsv := blankRsv, scaling := scaling, scalingRsv := scalingRsv, prefVRate := prefVRate })

def asmDrlTiming (v : AsmValue) : Option DrlTiming :=
  match asmPlain v with
  | some t => some t
  | none =>
    match asmSecondaryGtf v with
    | some t => some t
    | none => asmCvtSupport v

def asmDrl (v : AsmValue) : Option Drl := do
  let fs ← v.fields? (some "DisplayRangeLimits")
    ["v_min", "v_max", "h_min", "h_max", "v_min_plus255", "v_max_plus255", "h_min_plus255", "h_max_plus255",
     "flags_rsv", "max_pclk10", "timing"]
  let vMin ← asmField fs "v_min" (AsmValue.word? 8)
  let vMax ← asmField fs "v_max" (AsmValue.word? 8)
  let hMin ← asmField fs "h_min" (AsmValue.word? 8)
  let hMax ← asmField fs "h_max" (AsmValue.word? 8)
  let vMinPlus255 ← asmField fs "v_min_plus255" AsmValue.bool?
  let vMaxPlus255 ← asmField fs "v_max_plus255" AsmValue.bool?
  let hMinPlus255 ← asmField fs "h_min_plus255" AsmValue.bool?
  let hMaxPlus255 ← asmField fs "h_max_plus255" AsmValue.bool?
  let flagsRsv ← asmField fs "flags_rsv" (AsmValue.word? 4)
  let maxPclk10 ← asmField fs "max_pclk10" (AsmValue.word? 8)
  let timing ← asmField fs "timing" asmDrlTiming
  some
    { vMin := vMin, vMax := vMax, hMin := hMin, hMax := hMax, vMinPlus255 := vMinPlus255
      vMaxPlus255 := vMaxPlus255, hMinPlus255 := hMinPlus255, hMaxPlus255 := hMaxPlus255, flagsRsv := flagsRsv
      maxPclk10 := maxPclk10, timing := timing }

def asmEt3 (v : AsmValue) : Option Et3 := do
  let fs ← v.fields? (some "EstablishedTimingsIII") ["bitmap", "rsv"]
  let bitmap ← asmField fs "bitmap" (AsmValue.bytesOf? 6)
  let rsv ← asmField fs "rsv" (AsmValue.bytesOf? 6)
  some { bitmap := bitmap, rsv := rsv }

/-- A tagged string or slot: the tag before the value, or the one field of its variant (R33). -/
def asmTaggedBytes (t fieldName : String) (v : AsmValue) : Option (List Byte) :=
  match v with
  | .tagged t' w => if t' = t.toList then w.bytes? else none
  | _ =>
    match v.fields? (some t) [fieldName] with
    | some fs => asmField fs fieldName AsmValue.bytes?
    | none => none

def asmDescriptor (v : AsmValue) : Option Descriptor :=
  let readers : List (AsmValue → Option Descriptor) :=
    [fun v => (asmDtd (some "DetailedTiming") v).map .detailedTiming,
     fun v => match v with
      | .tag t => if t = "Dummy".toList then some .dummy else none
      | _ => none,
     fun v => (asmTaggedBytes "SerialNumber" "s" v).map .serialNumber,
     fun v => (asmTaggedBytes "AlphanumericString" "s" v).map .alphanumericString,
     fun v => (asmDrl v).map .displayRangeLimits,
     fun v => (asmTaggedBytes "ProductName" "s" v).map .productName,
     fun v => (asmEt3 v).map .establishedTimingsIII,
     fun v => ((asmTaggedBytes "Opaque" "b" v).bind (toBytes 18)).map .opaqueSlot]
  readers.findSome? (fun f => f v)

def asmCvtGenArgs (v : AsmValue) : Option CvtGenArgs := do
  let fs ← v.fields? none ["h_active", "v_active", "refresh", "rb", "interlaced", "margins"]
  let hActive ← asmField fs "h_active" AsmValue.natural?
  let vActive ← asmField fs "v_active" AsmValue.natural?
  let refresh ← asmField fs "refresh" AsmValue.rational?
  let rb ← asmField fs "rb" (AsmValue.word? 8)
  let interlaced ← asmField fs "interlaced" AsmValue.bool?
  let margins ← asmField fs "margins" AsmValue.bool?
  some
    { hActive := hActive, vActive := vActive, refresh := refresh, rb := rb, interlaced := interlaced
      margins := margins }

/-- A GTF constant left out takes its default (R38, R84). -/
def asmGtfGenArgs (v : AsmValue) : Option GtfGenArgs := do
  let fs ← v.fields? none ["h_active", "v_active", "refresh", "interlaced", "margins", "M", "C", "K", "J"]
  let hActive ← asmField fs "h_active" AsmValue.natural?
  let vActive ← asmField fs "v_active" AsmValue.natural?
  let refresh ← asmField fs "refresh" AsmValue.rational?
  let interlaced ← asmField fs "interlaced" AsmValue.bool?
  let margins ← asmField fs "margins" AsmValue.bool?
  let m ← asmFieldOr fs "M" AsmValue.rational? 600
  let c ← asmFieldOr fs "C" AsmValue.rational? 40
  let k ← asmFieldOr fs "K" AsmValue.rational? 128
  let j ← asmFieldOr fs "J" AsmValue.rational? 20
  some
    { hActive := hActive, vActive := vActive, refresh := refresh, interlaced := interlaced, margins := margins
      m := m, c := c, k := k, j := j }

/-! ## Lines -/

/-- The operand a value spells, whatever the op code: its kind is read from its own shape (R83 judges it later). R84's grammar gives
a Standard Timing as a bare record and the spec's own lines give it after `some`: both are read as the timing (log
entry 8, DESIGN CHOICE). -/
def asmOperand (v : AsmValue) : Option Operand :=
  match v with
  | .bytes b => some (.bytes b)
  | .absent => some (.stdIn none)
  | .present w => (asmStdTiming w).map fun t => .stdIn (some t)
  | _ =>
    let readers : List (AsmValue → Option Operand) :=
      [fun v => (asmStdTiming v).map fun t => .stdIn (some t),
       fun v => (asmCvtCode v).map .cvt3In, fun v => (asmDtd none v).map .dtdIn,
       fun v => (asmDescriptor v).map .descIn, fun v => (asmCvtGenArgs v).map .cvtGenIn,
       fun v => (asmGtfGenArgs v).map .gtfGenIn]
    readers.findSome? (fun f => f v)

/-- The op code of a mnemonic, R81. -/
def asmOpcode (w : List Char) : Option (BitVec 8) :=
  (opcodeMap.find? fun p => p.1.toList = w).map (·.2)

/-- The request a line names (R84). A line without an operand names none. -/
def assembleLine (line : List Char) : Option Request :=
  match asmTokens line.length line with
  | some (.word w :: rest) =>
    match asmOpcode w, asmValue rest.length rest with
    | some op, some (v, []) => (asmOperand v).map fun o => { op := op, operand := o }
    | _, _ => none
  | _ => none

end Sys2Proof.Machine
end

