-- ==== Sys2Proof/Tests/Slice0.lean ====
section
/-! SUPPORT. Tests: decode words, ill-formed terms, one step per vector of spec/95_test_vectors.md, and witnesses that the
hypotheses of the statements can be met. -/

-- Many small theorems: elaborated one after the other, so that few of Lean's threads are alive at once.
set_option Elab.async false

namespace Sys2Proof.Tests

open Sys2Proof Sys2Proof.Machine

/-! ## Helpers -/

/-- One step on a state whose one request is `op` with `o`: it answers exactly `r`. -/
def answers (op : BitVec 8) (o : Operand) (r : Response) : Bool :=
  match step { pending := [{ op := op, operand := o }], responses := [] } with
  | .next t => decide (t.pending = [] ∧ t.responses = [r])
  | .fault _ => false
  | .refused _ => false

def okBytes (l : List Byte) : Response := { status := .ok, result := some (.bytes l) }
def okDesc (d : Descriptor) : Response := { status := .ok, result := some (.desc d) }
def noResult (st : Status) : Response := { status := st, result := none }

/-- The timing a generator's request gets. -/
def timingOf (op : BitVec 8) (o : Operand) : Option TimingParams :=
  match (responseTo { op := op, operand := o }).result with
  | some (.timing p) => some p
  | _ => none

/-- The slot `E` of L2-DTD. -/
def slotE : List Byte :=
  [0x1A, 0x36, 0x80, 0xA0, 0x70, 0x38, 0x1F, 0x40, 0x30, 0x20, 0x35, 0x00, 0x0F, 0x28, 0x21, 0x00, 0x00, 0x1A]

/-- The record of L2-DTD vector 1. -/
def dtdE : Dtd :=
  { pixelClock := 13850, hActive := 1920, hBlank := 160, vActive := 1080, vBlank := 31, hFrontPorch := 48,
    hSyncWidth := 32, vFrontPorch := 3, vSyncWidth := 5, hSizeMm := 527, vSizeMm := 296, hBorder := 0, vBorder := 0,
    interlaced := false, stereo := 0, sync := .digital false none (some false) true }

/-- The slot of the R200 example, ProductName "DELL U2415". -/
def slotName : List Byte :=
  [0x00, 0x00, 0x00, 0xFC, 0x00, 0x44, 0x45, 0x4C, 0x4C, 0x20, 0x55, 0x32, 0x34, 0x31, 0x35, 0x0A, 0x20, 0x20]

def textName : List Byte := [0x44, 0x45, 0x4C, 0x4C, 0x20, 0x55, 0x32, 0x34, 0x31, 0x35]

/-- The slot of the R196 example, SerialNumber "A1B2C3". -/
def slotSerial : List Byte :=
  [0x00, 0x00, 0x00, 0xFF, 0x00, 0x41, 0x31, 0x42, 0x32, 0x43, 0x33, 0x0A, 0x20, 0x20, 0x20, 0x20, 0x20, 0x20]

def textSerial : List Byte := [0x41, 0x31, 0x42, 0x32, 0x43, 0x33]

/-- The slot of the R198 example, AlphanumericString "LG". -/
def slotAlnum : List Byte := [0x00, 0x00, 0x00, 0xFE, 0x00, 0x4C, 0x47, 0x0A] ++ List.replicate 10 0x20

def slotDummy : List Byte := [0x00, 0x00, 0x00, 0x10] ++ List.replicate 14 0x00

/-- The slot of L2-REG vector 17 (the R204 example) and its record. -/
def slotRange : List Byte :=
  [0x00, 0x00, 0x00, 0xFD, 0x00, 0x30, 0x4B, 0x1E, 0x53, 0x11, 0x04, 0x11, 0x08, 0xF0, 0xE0, 0x38, 0xA0, 0x3C]

def drlRange : Drl :=
  { vMin := 0x30, vMax := 0x4B, hMin := 0x1E, hMax := 0x53, vMinPlus255 := false, vMaxPlus255 := false,
    hMinPlus255 := false, hMaxPlus255 := false, flagsRsv := 0, maxPclk10 := 0x11,
    timing := .cvtSupport
      { version := 0x11, pclkOffset := 2, maxActive8 := 240, aspects := 0b11100, aspectsRsv := 0, prefAspect := 1,
        rbSupported := true, stdSupported := true, blankRsv := 0, scaling := 0b1010, scalingRsv := 0,
        prefVRate := 60 } }

/-- The slot of L2-REG vector 16 and its timing. -/
def slotRangeGtf : List Byte :=
  [0x00, 0x00, 0x00, 0xFD, 0x00, 0x38, 0x4B, 0x1E, 0x51, 0x11, 0x02, 0x00, 0x28, 0x50, 0x58, 0x02, 0x80, 0x28]

/-- The slot of L2-REG vector 23 and its record: reserved bits kept. -/
def slotEt3 : List Byte :=
  [0x00, 0x00, 0x00, 0xF7, 0x00, 0x0A, 0x00, 0x00, 0x00, 0x00, 0x00, 0x0F, 0xAA, 0x00, 0x00, 0x00, 0x00, 0x00]

def et3Record : Et3 := { bitmap := #v[0, 0, 0, 0, 0, 0x0F], rsv := #v[0xAA, 0, 0, 0, 0, 0] }

def cvtArgs (h v : Nat) (refresh : ℚ) (rb : BitVec 8) : CvtGenArgs :=
  { hActive := h, vActive := v, refresh := refresh, rb := rb, interlaced := false, margins := false }

def gtfArgs (h v : Nat) (refresh : ℚ) : GtfGenArgs :=
  { hActive := h, vActive := v, refresh := refresh, interlaced := false, margins := false }

/-! ## Well-formedness: each check refuses an ill-formed term -/

theorem test_wf_kind : (Instr.stdEnc (.bytes [0x01, 0x01])).wellFormed = false := by decide
theorem test_wf_length : (Instr.stdDec (.bytes [0x01])).wellFormed = false := by decide
theorem test_wf_accepts : (Instr.stdDec (.bytes [0x01, 0x01])).wellFormed = true := by decide
theorem test_wf_std_width : StdTiming.encodable 5 { hActive8 := 287, aspect := 0, refresh := 60 } = false := by decide
theorem test_wf_std_refresh : StdTiming.encodable 5 { hActive8 := 100, aspect := 0, refresh := 92 } = false := by decide
theorem test_wf_std_sentinel : StdTiming.encodable 5 { hActive8 := 32, aspect := 0, refresh := 61 } = false := by decide
theorem test_wf_cvt_code_odd :
    CvtCode.encodable { vActive := 1081, aspect := 0, rsvA := 0, prefRate := 0, rates := 0, rsvB := 0 } = false := by
  decide
theorem test_wf_sync : Sync.wellFormed (.digital true none none true) = false := by decide
theorem test_wf_dtd_clock : Dtd.encodable { dtdE with pixelClock := 0 } = false := by decide
theorem test_wf_string_long : stringEncodable (List.replicate 14 0x41) = false := by decide
theorem test_wf_string_terminator : stringEncodable [0x41, 0x0A, 0x42] = false := by decide
theorem test_wf_plain_selector : DrlTiming.encodable (.plain 0x04 (Vector.replicate 7 0)) = false := by decide
theorem test_wf_descriptor : Descriptor.encodable (.productName (List.replicate 14 0x41)) = false := by decide
theorem test_wf_config : Config.wellFormed { unitConfig with chkMaxLen := some 127 } = false := by decide

/-! ## Decoding: op bytes written out from the op-code map of R81 -/

theorem test_decode_checksum (o : Operand) : decode { op := 0b00000001#8, operand := o } = .ok (.chkCompute o) := by rfl
theorem test_decode_validate (o : Operand) : decode { op := 0b00000010#8, operand := o } = .ok (.chkValidate o) := by rfl
theorem test_decode_seal (o : Operand) : decode { op := 0b00000011#8, operand := o } = .ok (.chkSeal o) := by rfl
theorem test_decode_stdDec (o : Operand) : decode { op := 0b00010000#8, operand := o } = .ok (.stdDec o) := by rfl
theorem test_decode_stdEnc (o : Operand) : decode { op := 0b00010001#8, operand := o } = .ok (.stdEnc o) := by rfl
theorem test_decode_cvt3Dec (o : Operand) : decode { op := 0b00010010#8, operand := o } = .ok (.cvt3Dec o) := by rfl
theorem test_decode_cvt3Enc (o : Operand) : decode { op := 0b00010011#8, operand := o } = .ok (.cvt3Enc o) := by rfl
theorem test_decode_dtdDec (o : Operand) : decode { op := 0b00100000#8, operand := o } = .ok (.dtdDec o) := by rfl
theorem test_decode_dtdEnc (o : Operand) : decode { op := 0b00100001#8, operand := o } = .ok (.dtdEnc o) := by rfl
theorem test_decode_slotDec (o : Operand) : decode { op := 0b00110000#8, operand := o } = .ok (.slotDec o) := by rfl
theorem test_decode_slotEnc (o : Operand) : decode { op := 0b00110001#8, operand := o } = .ok (.slotEnc o) := by rfl
theorem test_decode_regDecDummy (o : Operand) : decode { op := 0b01000000#8, operand := o } = .ok (.regDecDummy o) := by rfl
theorem test_decode_regEncDummy (o : Operand) : decode { op := 0b01000001#8, operand := o } = .ok (.regEncDummy o) := by rfl
theorem test_decode_regDecSerial (o : Operand) : decode { op := 0b01000010#8, operand := o } = .ok (.regDecSerial o) := by rfl
theorem test_decode_regEncSerial (o : Operand) : decode { op := 0b01000011#8, operand := o } = .ok (.regEncSerial o) := by rfl
theorem test_decode_regDecAlnum (o : Operand) : decode { op := 0b01000100#8, operand := o } = .ok (.regDecAlnum o) := by rfl
theorem test_decode_regEncAlnum (o : Operand) : decode { op := 0b01000101#8, operand := o } = .ok (.regEncAlnum o) := by rfl
theorem test_decode_regDecRange (o : Operand) : decode { op := 0b01000110#8, operand := o } = .ok (.regDecRange o) := by rfl
theorem test_decode_regEncRange (o : Operand) : decode { op := 0b01000111#8, operand := o } = .ok (.regEncRange o) := by rfl
theorem test_decode_regDecName (o : Operand) : decode { op := 0b01001000#8, operand := o } = .ok (.regDecName o) := by rfl
theorem test_decode_regEncName (o : Operand) : decode { op := 0b01001001#8, operand := o } = .ok (.regEncName o) := by rfl
theorem test_decode_regDecEt3 (o : Operand) : decode { op := 0b01001010#8, operand := o } = .ok (.regDecEt3 o) := by rfl
theorem test_decode_regEncEt3 (o : Operand) : decode { op := 0b01001011#8, operand := o } = .ok (.regEncEt3 o) := by rfl
theorem test_decode_cvtGen (o : Operand) : decode { op := 0b01010000#8, operand := o } = .ok (.cvtGen o) := by rfl
theorem test_decode_gtfGen (o : Operand) : decode { op := 0b01100000#8, operand := o } = .ok (.gtfGen o) := by rfl
theorem test_decode_illegal (o : Operand) : decode { op := 0b01001100#8, operand := o } = .error .illegalOp := by rfl
theorem test_decode_tableWord : decodeTableWord 8 0x30 = some (.slotDec (.bytes (List.replicate 18 0))) := by decide
theorem test_decode_tableWord_illegal : decodeTableWord 8 0x04 = none := by decide

/-! ## One step per vector (spec/95_test_vectors.md) -/

/-- L2-CHK 1 (the R140 example). -/
theorem test_chkCompute_header : answers 0x01 (.bytes headerBytes) { status := .ok, result := some (.byte 0x06) } := by
  decide +kernel
/-- L2-CHK 4. -/
theorem test_chkCompute_wraps : answers 0x01 (.bytes [0x80, 0x80]) { status := .ok, result := some (.byte 0x00) } := by
  decide +kernel
/-- L2-CHK 8. -/
theorem test_chkValidate_true :
    answers 0x02 (.bytes ([0x01] ++ List.replicate 126 0x00 ++ [0xFF])) { status := .ok, result := some (.bool true) } := by
  decide +kernel
/-- L2-CHK 7. -/
theorem test_chkValidate_false :
    answers 0x02 (.bytes ([0x00, 0x00, 0x00, 0x00, 0x00, 0x01] ++ List.replicate 122 0x00))
      { status := .ok, result := some (.bool false) } := by decide +kernel
/-- L2-CHK 12. -/
theorem test_chkSeal_writes :
    answers 0x03 (.bytes ([0x01] ++ List.replicate 127 0x00)) (okBytes ([0x01] ++ List.replicate 126 0x00 ++ [0xFF])) := by
  decide +kernel
/-- L2-CHK 13. -/
theorem test_chkSeal_length : answers 0x03 (.bytes (List.replicate 127 0x00)) (noResult .failLength) := by decide +kernel
/-- L2-STD 3: bit 5 of byte 1 is ignored. -/
theorem test_stdDec_ignores_bit5 :
    answers 0x10 (.bytes [0x81, 0xA0])
      { status := .ok, result := some (.std (some { hActive8 := 160, aspect := 2, refresh := 60 })) } := by decide +kernel
/-- L2-STD 6. -/
theorem test_stdDec_sentinel : answers 0x10 (.bytes [0x01, 0x01]) { status := .ok, result := some (.std none) } := by
  decide +kernel
/-- L2-STD 9. -/
theorem test_stdEnc_top :
    answers 0x11 (.stdIn (some { hActive8 := 286, aspect := 3, refresh := 91 })) (okBytes [0xFF, 0xDF]) := by decide +kernel
/-- L2-STD 14. -/
theorem test_stdEnc_refuses_sentinel :
    answers 0x11 (.stdIn (some { hActive8 := 32, aspect := 0, refresh := 61 })) (noResult .failRange) := by decide +kernel
/-- L2-CVT3 1 (the R157 example). -/
theorem test_cvt3Dec_1080 :
    answers 0x12 (.bytes [0x1B, 0x24, 0x29])
      { status := .ok
        result := some (.cvt3 { vActive := 1080, aspect := 1, rsvA := 0, prefRate := 1, rates := 0b01001, rsvB := 0 }) } := by
  decide +kernel
/-- L2-CVT3 4: reserved bits are kept. -/
theorem test_cvt3Dec_ones :
    answers 0x12 (.bytes [0xFF, 0xFF, 0xFF])
      { status := .ok
        result := some (.cvt3 { vActive := 8192, aspect := 3, rsvA := 3, prefRate := 3, rates := 0b11111, rsvB := 1 }) } := by
  decide +kernel
/-- L2-CVT3 6 (the R158 example). -/
theorem test_cvt3Enc_768 :
    answers 0x13 (.cvt3In { vActive := 768, aspect := 0, rsvA := 0, prefRate := 1, rates := 0b11110, rsvB := 0 })
      (okBytes [0x7F, 0x10, 0x3E]) := by decide +kernel
/-- L2-CVT3 10. -/
theorem test_cvt3Enc_range :
    answers 0x13 (.cvt3In { vActive := 8194, aspect := 0, rsvA := 0, prefRate := 0, rates := 0, rsvB := 0 })
      (noResult .failRange) := by decide +kernel
/-- L2-DTD 1 (the R171 example). -/
theorem test_dtdDec_fullHd : answers 0x20 (.bytes slotE) { status := .ok, result := some (.dtd dtdE) } := by decide +kernel
/-- L2-DTD 7: composite digital sync. -/
theorem test_dtdDec_composite :
    answers 0x20
      (.bytes [0x52, 0x09, 0x80, 0xA0, 0x20, 0xE0, 0x11, 0x10, 0x10, 0x40, 0x13, 0, 0, 0, 0, 0, 0, 0x16])
      { status := .ok
        result := some (.dtd
          { pixelClock := 2386, hActive := 640, hBlank := 160, vActive := 480, vBlank := 17, hFrontPorch := 16,
            hSyncWidth := 64, vFrontPorch := 1, vSyncWidth := 3, hSizeMm := 0, vSizeMm := 0, hBorder := 0, vBorder := 0,
            interlaced := false, stereo := 0, sync := .digital true (some true) none true }) } := by decide +kernel
/-- L2-DTD 12: stereo code 001 is written as given. -/
theorem test_dtdEnc_stereo :
    answers 0x21 (.dtdIn { dtdE with stereo := 1 }) (okBytes (slotE.take 17 ++ [0x1B])) := by decide +kernel
/-- L2-DTD 10. -/
theorem test_dtdEnc_bad_sync :
    answers 0x21 (.dtdIn { dtdE with sync := .digital false (some true) (some false) true }) (noResult .failMalformed) := by
  decide +kernel
/-- L2-SLOT 4. -/
theorem test_slotDec_name : answers 0x30 (.bytes slotName) (okDesc (.productName textName)) := by decide +kernel
/-- L2-SLOT 7: byte 2 is not 0. -/
theorem test_slotDec_opaque :
    answers 0x30 (.bytes ([0x00, 0x00, 0x05, 0xFC, 0x00, 0x0A] ++ List.replicate 12 0x20))
      (okDesc (.opaqueSlot #v[0x00, 0x00, 0x05, 0xFC, 0x00, 0x0A, 0x20, 0x20, 0x20, 0x20, 0x20, 0x20, 0x20, 0x20, 0x20,
        0x20, 0x20, 0x20])) := by decide +kernel
/-- L2-SLOT 8: an opaque slot is written verbatim. -/
theorem test_slotEnc_opaque :
    answers 0x31
      (.descIn (.opaqueSlot #v[0x1A, 0x36, 0x80, 0xA0, 0x70, 0x38, 0x1F, 0x40, 0x30, 0x20, 0x35, 0x00, 0x0F, 0x28, 0x21,
        0x00, 0x00, 0x1A])) (okBytes slotE) := by decide +kernel
/-- L2-SLOT 9. -/
theorem test_slotEnc_bad_dtd :
    answers 0x31 (.descIn (.detailedTiming { dtdE with pixelClock := 0 })) (noResult .failMalformed) := by decide +kernel
/-- L1-7. -/
theorem test_regDecDummy_empty : answers 0x40 (.bytes slotDummy) (okDesc .dummy) := by decide +kernel
/-- L2-REG 14. -/
theorem test_regDecDummy_payload :
    answers 0x40 (.bytes ([0x00, 0x00, 0x00, 0x10] ++ List.replicate 13 0x00 ++ [0x01])) (noResult .notThisType) := by
  decide +kernel
/-- L1-7. -/
theorem test_regEncDummy_pads : answers 0x41 (.descIn .dummy) (okBytes slotDummy) := by decide +kernel
/-- L2-REG 26. -/
theorem test_regEncDummy_other : answers 0x41 (.descIn (.serialNumber [])) (noResult .doesNotApply) := by decide +kernel
/-- L2-REG 2. -/
theorem test_regDecSerial_text : answers 0x42 (.bytes slotSerial) (okDesc (.serialNumber textSerial)) := by decide +kernel
/-- L2-REG 10: bad padding. -/
theorem test_regDecSerial_padding :
    answers 0x42 (.bytes ([0x00, 0x00, 0x00, 0xFF, 0x00, 0x41, 0x0A, 0x41] ++ List.replicate 10 0x20))
      (noResult .notThisType) := by decide +kernel
/-- L2-REG 7: 12 bytes, the terminator and no padding. -/
theorem test_regEncSerial_twelve :
    answers 0x43
      (.descIn (.serialNumber [0x41, 0x42, 0x43, 0x44, 0x45, 0x46, 0x47, 0x48, 0x49, 0x4A, 0x4B, 0x4C]))
      (okBytes [0x00, 0x00, 0x00, 0xFF, 0x00, 0x41, 0x42, 0x43, 0x44, 0x45, 0x46, 0x47, 0x48, 0x49, 0x4A, 0x4B, 0x4C,
        0x0A]) := by decide +kernel
/-- L2-REG 8. -/
theorem test_regEncSerial_fourteen :
    answers 0x43 (.descIn (.serialNumber (List.replicate 14 0x41))) (noResult .failMalformed) := by decide +kernel
/-- The R198 example. -/
theorem test_regDecAlnum_text : answers 0x44 (.bytes slotAlnum) (okDesc (.alphanumericString [0x4C, 0x47])) := by
  decide +kernel
/-- L2-REG 28. -/
theorem test_regDecAlnum_length :
    answers 0x44 (.bytes [0x00, 0x00, 0x00, 0xFE, 0x00]) (noResult .failLength) := by decide +kernel
/-- L2-REG 3. -/
theorem test_regEncAlnum_text : answers 0x45 (.descIn (.alphanumericString [0x4C, 0x47])) (okBytes slotAlnum) := by
  decide +kernel
/-- R199: another variant. -/
theorem test_regEncAlnum_other : answers 0x45 (.descIn (.productName [0x4C])) (noResult .doesNotApply) := by
  decide +kernel
/-- L2-REG 18. -/
theorem test_regDecRange_cvt : answers 0x46 (.bytes slotRange) (okDesc (.displayRangeLimits drlRange)) := by
  decide +kernel
/-- L2-REG 16: the coefficient M is little endian. -/
theorem test_regDecRange_gtf :
    answers 0x46 (.bytes slotRangeGtf)
      (okDesc (.displayRangeLimits
        { vMin := 56, vMax := 75, hMin := 30, hMax := 81, vMinPlus255 := false, vMaxPlus255 := false,
          hMinPlus255 := false, hMaxPlus255 := false, flagsRsv := 0, maxPclk10 := 17,
          timing := .secondaryGtf { rsv := 0, hBreak2 := 0x28, c2 := 0x50, m := 600, k := 128, j2 := 0x28 } })) := by
  decide +kernel
/-- L2-REG 17 (the R204 example). -/
theorem test_regEncRange_cvt : answers 0x47 (.descIn (.displayRangeLimits drlRange)) (okBytes slotRange) := by
  decide +kernel
/-- L2-REG 20. -/
theorem test_regEncRange_selector :
    answers 0x47 (.descIn (.displayRangeLimits { drlRange with timing := .plain 0x04 (Vector.replicate 7 0) }))
      (noResult .failMalformed) := by decide +kernel
/-- The R200 example. -/
theorem test_regDecName_text : answers 0x48 (.bytes slotName) (okDesc (.productName textName)) := by decide +kernel
/-- L2-REG 12: byte 4 is not 0. -/
theorem test_regDecName_byte4 :
    answers 0x48 (.bytes ([0x00, 0x00, 0x00, 0xFC, 0x01, 0x0A] ++ List.replicate 12 0x20)) (noResult .notThisType) := by
  decide +kernel
/-- L2-REG 4. -/
theorem test_regEncName_text : answers 0x49 (.descIn (.productName textName)) (okBytes slotName) := by decide +kernel
/-- L2-REG 9. -/
theorem test_regEncName_terminator :
    answers 0x49 (.descIn (.productName [0x41, 0x0A, 0x42])) (noResult .failMalformed) := by decide +kernel
/-- L2-REG 23: reserved bits are kept. -/
theorem test_regDecEt3_reserved : answers 0x4A (.bytes slotEt3) (okDesc (.establishedTimingsIII et3Record)) := by
  decide +kernel
/-- L2-REG 25: the marker. -/
theorem test_regDecEt3_marker :
    answers 0x4A (.bytes ([0x00, 0x00, 0x00, 0xF7, 0x00, 0x0B] ++ List.replicate 12 0x00)) (noResult .notThisType) := by
  decide +kernel
/-- L2-REG 24. -/
theorem test_regEncEt3_record : answers 0x4B (.descIn (.establishedTimingsIII et3Record)) (okBytes slotEt3) := by
  decide +kernel
/-- R207: another variant. -/
theorem test_regEncEt3_other : answers 0x4B (.descIn .dummy) (noResult .doesNotApply) := by decide +kernel
/-- L2-CVT 12: interlaced, margins, v2. -/
theorem test_cvtGen_interlaced :
    timingOf 0x50
        (.cvtGenIn { hActive := 1920, vActive := 1080, refresh := 60, rb := 2, interlaced := true, margins := true }) =
      some
        { hActive := 1920, hBorder := 32, hFrontPorch := 8, hSync := 32, hBackPorch := 40, hBlank := 80, hTotal := 2064,
          vActive := 540, vBorder := 9, vFrontPorch := 19, vSync := 8, vBackPorch := 6, vBlank := 33, vTotal := 1183 / 2,
          pixelClock := 73251 / 500, hRate := 1000 * (73251 / 500) / 2064, vFieldRate := 2 * (3052125 / 50869),
          vRate := 3052125 / 50869, interlaced := true, hSyncPositive := true, vSyncPositive := false } := by
  decide +kernel
/-- L2-CVT 10: standard blanking with margins. -/
theorem test_cvtGen_margins :
    timingOf 0x50
        (.cvtGenIn { hActive := 800, vActive := 600, refresh := 60, rb := 0, interlaced := false, margins := true }) =
      some
        { hActive := 800, hBorder := 8, hFrontPorch := 32, hSync := 80, hBackPorch := 112, hBlank := 224, hTotal := 1040,
          vActive := 600, vBorder := 10, vFrontPorch := 3, vSync := 4, vBackPorch := 18, vBlank := 25, vTotal := 645,
          pixelClock := 40, hRate := 500 / 13, vFieldRate := 100000 / 1677, vRate := 100000 / 1677, interlaced := false,
          hSyncPositive := false, vSyncPositive := true } := by
  decide +kernel
/-- L2-GTF 3: interlaced. -/
theorem test_gtfGen_interlaced :
    timingOf 0x60 (.gtfGenIn { hActive := 1920, vActive := 1080, refresh := 60, interlaced := true, margins := false }) =
      some
        { hActive := 1920, hBorder := 0, hFrontPorch := 120, hSync := 208, hBackPorch := 328, hBlank := 656,
          hTotal := 2576, vActive := 540, vBorder := 0, vFrontPorch := 1, vSync := 3, vBackPorch := 35, vBlank := 39,
          vTotal := 1159 / 2, pixelClock := 559797 / 3125, hRate := 3477 / 50, vFieldRate := 120, vRate := 60,
          interlaced := true, hSyncPositive := false, vSyncPositive := true } := by
  decide +kernel
/-- L2-GTF 7. -/
theorem test_gtfGen_domain : answers 0x60 (.gtfGenIn (gtfArgs 640 480 2000)) (noResult .domainError) := by decide +kernel
/-- L2-CVT 16: the selector is checked first. -/
theorem test_priority_selector : answers 0x50 (.cvtGenIn (cvtArgs 1920 1080 0 4)) (noResult .usageError) := by
  decide +kernel
/-- L2-EXC 5 and 7: the wrong operand kind. -/
theorem test_priority_kind : answers 0x50 (.gtfGenIn (gtfArgs 640 480 60)) (noResult .failMalformed) := by decide +kernel
/-- L2-EXC 3. -/
theorem test_illegal_op : answers 0xFF (.bytes []) (noResult .illegalOp) := by decide +kernel
/-- The host's first instruction after reset is the table word. -/
theorem test_withFetchWord :
    step (State.reset.withFetchWord 8 0x40) =
      exec (.regDecDummy (.bytes (List.replicate 18 0))) State.reset := by rfl

/-! ## The parameters' other settings and the readings of the fields -/

/-- R6: the VESA width of the refresh field. -/
theorem test_std_six_bits :
    stdDecode 6 #v[0x81, 0xA0] = some { hActive8 := 160, aspect := 2, refresh := 92 } := by decide +kernel
/-- R245: the `cell` aspect test takes 1360 for 16:9 of 768 lines, where `exact` takes no ratio (L2-CVT 8). -/
theorem test_aspect_cell :
    cvtVSync exactArithmetic .cell .off 768 1360 = 5 ∧ cvtVSync exactArithmetic .exact .off 768 1360 = 10 := by
  decide +kernel
/-- IEEE 754: the double nearest to 1/10 is 3602879701896397 / 2^55, and 2^53 + 1 is a tie that goes to even. -/
theorem test_double_tenth :
    toDouble (1 / 10) = .finite (3602879701896397 / 2 ^ 55) ∧ toDouble (2 ^ 53 + 1) = .finite (2 ^ 53) := by
  decide +kernel
/-- IEEE 754: the largest double and half a unit more, division by a negative zero, infinity times zero, and the sum of
opposite infinities. -/
theorem test_double_special :
    toDouble (2 ^ 1024 - 2 ^ 970) = .infinite false ∧ toDouble (2 ^ 1024 - 2 ^ 970 - 1) = .finite (2 ^ 1024 - 2 ^ 971) ∧
    toDouble (-1 / 2 ^ 1075) = .negZero ∧ (Binary64.finite 1).div .negZero = .infinite true ∧
    (Binary64.infinite false).mul .negZero = .nan ∧ (Binary64.infinite false).sub (.infinite false) = .nan := by
  decide +kernel
/-- R257, by hand: the period of 10^-303 Hz is an infinity, so the duty cycle is its floor of 20 %, the blank is
1920 * 20 / 80 = 480 and the clock is 0. -/
theorem test_binary64_cvt :
    ((cvtGenerate { unitConfig with genArith := .binary64 } (cvtArgs 1920 1080 (1 / 10 ^ 303) 0)).toOption.map
      fun p => (p.hBlank, p.pixelClock)) = some (480, 0) := by decide +kernel
/-- R293, by hand: twice 1.7 * 10^308 Hz is an infinity, so the period is below 0. -/
theorem test_binary64_gtf :
    responseOf (gtfGen { unitConfig with genArith := .binary64 }
      (.gtfGenIn { gtfArgs 640 480 (17 * 10 ^ 307) with interlaced := true })) = noResult .domainError := by
  decide +kernel
/-- The extended clock of the R204 example, 169.5 MHz. -/
theorem test_ext_clock : extMaxPclkMhz drlRange = some (339 / 2) := by decide +kernel
/-- P1, lines 2 to 4: the host's mapping gives the record of `E` but for the image size. -/
theorem test_dtdOfTiming :
    (timingOf 0x50 (.cvtGenIn (cvtArgs 1920 1080 60 1))).bind dtdOfTiming =
      some { dtdE with hSizeMm := 0, vSizeMm := 0 } := by decide +kernel
/-- R206: the one flag of its example. -/
theorem test_et3_mode : et3Modes { bitmap := #v[0x40, 0, 0, 0, 0, 0], rsv := Vector.replicate 6 0 } = ["640x400@85"] := by
  decide +kernel
/-- P3, line i = 0, as text. -/
theorem test_assemble_std :
    assembleLine
        ("STD_ENC some ".toList ++ [openBrace] ++ "h_active8 = 160, aspect = 2, refresh = 60".toList ++ [closeBrace]) =
      some { op := 0x11, operand := .stdIn (some { hActive8 := 160, aspect := 2, refresh := 60 }) } := by decide +kernel
/-- R84's grammar: the record without `some` is the same line (log entry 8). -/
theorem test_assemble_bare_record :
    assembleLine
        ("STD_ENC ".toList ++ [openBrace] ++ "h_active8 = 160, aspect = 2, refresh = 60".toList ++ [closeBrace]) =
      some { op := 0x11, operand := .stdIn (some { hActive8 := 160, aspect := 2, refresh := 60 }) } := by decide +kernel
/-- A numeral with a point (log entry 8). -/
theorem test_assemble_decimal : numberOf "59.94".toList = some (2997 / 50) := by decide +kernel

/-! ## Witnesses: for each statement with hypotheses, values that meet them, at the ends of their ranges

`test_witness_<Name>` is for `Obligations.<Name>`. -/

/-- A state with two requests issued and one response given. -/
def busyState : State :=
  { pending := [{ op := 0x01, operand := .bytes [0x80] }, { op := 0x60, operand := .stdIn none }]
    responses := [noResult .illegalOp] }

theorem test_witness_StepRunsTheDecodedInstruction :
    busyState.pending = { op := 0x01, operand := .bytes [0x80] } :: busyState.pending.tail ∧
      decode { op := 0x01, operand := .bytes [0x80] } = .ok (.chkCompute (.bytes [0x80])) := by
  exact ⟨rfl, rfl⟩

theorem test_witness_DecodeAndEncodeAgree :
    decode { op := 0x60, operand := .stdIn none } = .ok (.gtfGen (.stdIn none)) := by rfl

/-- The ends of the ranges of R82, and the op codes beside them. -/
theorem test_witness_OpcodesOutsideTheMapAreIllegal :
    (∀ n ∈ [0x00, 0x04, 0x0F, 0x14, 0x1F, 0x22, 0x2F, 0x32, 0x3F, 0x4C, 0x4F, 0x51, 0x5F, 0x61, 0xFF],
      decode { op := BitVec.ofNat 8 n, operand := .bytes [] } = .error .illegalOp ∧
      (n = 0x00 ∨ (0x04 ≤ n ∧ n ≤ 0x0F) ∨ (0x14 ≤ n ∧ n ≤ 0x1F) ∨ (0x22 ≤ n ∧ n ≤ 0x2F) ∨
        (0x32 ≤ n ∧ n ≤ 0x3F) ∨ (0x4C ≤ n ∧ n ≤ 0x4F) ∨ (0x51 ≤ n ∧ n ≤ 0x5F) ∨ (0x61 ≤ n ∧ n ≤ 0xFF))) ∧
    (∀ n ∈ [0x01, 0x03, 0x10, 0x13, 0x20, 0x21, 0x30, 0x31, 0x40, 0x4B, 0x50, 0x60],
      decode { op := BitVec.ofNat 8 n, operand := .bytes [] } ≠ .error .illegalOp ∧
      ¬ (n = 0x00 ∨ (0x04 ≤ n ∧ n ≤ 0x0F) ∨ (0x14 ≤ n ∧ n ≤ 0x1F) ∨ (0x22 ≤ n ∧ n ≤ 0x2F) ∨
        (0x32 ≤ n ∧ n ≤ 0x3F) ∨ (0x4C ≤ n ∧ n ≤ 0x4F) ∨ (0x51 ≤ n ∧ n ≤ 0x5F) ∨ (0x61 ≤ n ∧ n ≤ 0xFF))) ∧
    busyState.pending = { op := 0x01, operand := .bytes [0x80] } :: busyState.pending.tail := by
  refine ⟨?_, ?_, rfl⟩ <;> decide +kernel

theorem test_witness_WrongOperandsEndWithTheirStatus :
    (Instr.cvtGen (.bytes [])).operand.kind ≠ (Instr.cvtGen (.bytes [])).operandKind ∧
    (Instr.chkSeal (.bytes [])).operandKind = .bytes ∧ (Instr.chkSeal (.bytes [])).operandLength = some 128 ∧
    (Instr.chkSeal (.bytes (List.replicate 127 0))).operand = .bytes (List.replicate 127 0) ∧
    (List.replicate 127 (0 : Byte)).length ≠ 128 := by decide +kernel

theorem test_witness_IdleStepChangesNothing :
    ({ pending := [], responses := busyState.responses } : State).pending = [] := by rfl

theorem test_witness_ResponsesDependOnTheRequestAlone :
    busyState.pending = { op := 0x01, operand := .bytes [0x80] } :: busyState.pending.tail ∧
    ({ pending := [{ op := 0x01, operand := .bytes [0x80] }], responses := [] } : State).pending =
      { op := 0x01, operand := .bytes [0x80] } :: [] := by exact ⟨rfl, rfl⟩

theorem test_witness_EveryOrderGivesEachRequestItsResponse :
    busyState.pending.Perm ({ busyState with pending := busyState.pending.reverse } : State).pending := by
  decide +kernel

/-- A response that fails the invariant exists too: `InterfaceInv` is not true of every state. -/
theorem test_witness_StepsKeepResponsesWellFormed :
    InterfaceInv busyState ∧ step busyState = .next
      { pending := busyState.pending.tail
        responses := busyState.responses ++ [{ status := .ok, result := some (.byte 0x80) }] } ∧
    ¬ InterfaceInv { pending := [], responses := [{ status := .ok, result := none }] } := by
  refine ⟨?_, by rfl, ?_⟩
  · intro r hr
    simp only [busyState, List.mem_singleton] at hr
    subst hr
    exact ⟨by decide, fun v hv => by cases hv⟩
  · intro h
    exact absurd ((h _ (List.mem_singleton.2 rfl)).1.1 rfl) (by decide)

/-- For every operand kind another kind exists, and every length R65 fixes has neighbours. -/
theorem test_witness_refusesOtherKinds_and_refusesOtherLengths :
    (∀ k ∈ [OperandKind.stdIn, .cvt3In, .dtdIn, .descIn, .cvtGenIn, .gtfGenIn], (Operand.bytes []).kind ≠ k) ∧
    (Operand.stdIn none).kind ≠ .bytes ∧
    (∀ n ∈ [2, 3, 18, 128], (List.replicate (n - 1) (0 : Byte)).length ≠ n ∧
      (List.replicate (n + 1) (0 : Byte)).length ≠ n) := by decide +kernel

theorem test_witness_ChecksumLaws : (List.replicate 128 (0xFF : Byte)).length = 128 := by decide +kernel

/-- Both widths: a timing the encoder takes, and a byte 1 at the top of the encodable range. -/
theorem test_witness_StandardTimingRoundTrip :
    stdEncode 5 (some { hActive8 := 286, aspect := 3, refresh := 91 }) = .ok [0xFF, 0xDF] ∧
    stdEncode 6 (some { hActive8 := 286, aspect := 3, refresh := 123 }) = .ok [0xFF, 0xFF] ∧
    (#v[0xFF, 0xDF] : Bytes 2)[1].toNat % 64 < 2 ^ 5 ∧ (#v[0xFF, 0xFF] : Bytes 2)[1].toNat % 64 < 2 ^ 6 := by
  refine ⟨by rfl, by rfl, by decide, by decide⟩

theorem test_witness_CvtCodeRoundTrip (s : State) :
    [(0xFF : Byte), 0xF0, 0x00].length = 3 ∧
    exec (.cvt3Enc (.cvt3In { vActive := 8192, aspect := 0, rsvA := 0, prefRate := 0, rates := 0, rsvB := 0 })) s =
      .next (withResponse s .ok (some (.bytes [0xFF, 0xF0, 0x00]))) := by
  exact ⟨rfl, (exec_withResponse_iff _ _ _ _).2 (by rfl)⟩

/-- A zero clock, the smallest clock, and the three sync forms of byte 17. -/
theorem test_witness_DtdDecReadsEveryField :
    ((Vector.replicate 18 0 : Bytes 18)[0] = 0 ∧ (Vector.replicate 18 0 : Bytes 18)[1] = 0) ∧
    ((Vector.replicate 18 0 : Bytes 18).set 0 1)[0] ≠ 0 ∧ ((Vector.replicate 18 0 : Bytes 18).set 1 1)[1] ≠ 0 ∧
    (0x0E : Byte).toNat / 16 % 2 = 0 ∧ (0x16 : Byte).toNat / 8 % 4 = 2 ∧ (0x1E : Byte).toNat / 8 % 4 = 3 := by
  decide +kernel

theorem test_witness_DtdEncWritesEveryByteOrRefuses :
    ({ dtdE with pixelClock := 0 } : Dtd).pixelClock = 0 ∧
    syncBits (.digital true none none true) = none ∧ syncBits (.digital false (some true) (some true) true) = none ∧
    dtdE.pixelClock ≠ 0 ∧ syncBits dtdE.sync = some 26 ∧ syncBits (.analog true true false) = some 14 ∧
    syncBits (.digital true (some true) none false) = some 20 := by decide +kernel

theorem test_witness_DetailedTimingRoundTrip :
    slotE.length = 18 ∧ slotE.take 2 ≠ [0, 0] ∧
      ∀ s, exec (.dtdEnc (.dtdIn dtdE)) s = .next (withResponse s .ok (some (.bytes slotE))) :=
  ⟨by decide, by decide, fun _ => (exec_withResponse_iff _ _ _ _).2 (by rfl)⟩

theorem test_witness_RegDecDummyAcceptsOneSlot :
    slotDummy.length = 18 ∧ (slotDummy.take 17 ++ [0x01]).length = 18 ∧ slotDummy.take 17 ++ [0x01] ≠ slotDummy := by
  decide

theorem test_witness_RegEncDummyWritesOneSlot : (Descriptor.serialNumber []) ≠ .dummy := by decide

/-- A full payload, a 12-byte and an empty content, and a slot of no content. -/
theorem test_witness_StringDecodersAcceptExactlyTheirSlots :
    IsStringSlot 0xFF (List.replicate 13 0x41) ([0x00, 0x00, 0x00, 0xFF, 0x00] ++ List.replicate 13 0x41) ∧
    IsStringSlot 0xFE (List.replicate 12 0x41) ([0x00, 0x00, 0x00, 0xFE, 0x00] ++ List.replicate 12 0x41 ++ [0x0A]) ∧
    IsStringSlot 0xFC [] ([0x00, 0x00, 0x00, 0xFC, 0x00, 0x0A] ++ List.replicate 12 0x20) ∧
    slotDummy.length = 18 ∧ ∀ c, ¬ IsStringSlot 0xFC c slotDummy := by
  refine ⟨⟨by decide, .inl (by decide)⟩, ⟨by decide, .inr (by decide)⟩, ⟨by decide, .inr (by decide)⟩, by decide, ?_⟩
  rintro c ⟨_, ⟨_, h⟩ | ⟨_, h⟩⟩ <;> exact absurd (congrArg (fun l => l[3]?) h) (by simp [slotDummy])

theorem test_witness_StringEncodersWriteTheirSlotsOrRefuse :
    ((List.replicate 13 (0x41 : Byte)).length ≤ 13 ∧ (0x0A : Byte) ∉ List.replicate 13 0x41) ∧
    13 < (List.replicate 14 (0x41 : Byte)).length ∧ (0x0A : Byte) ∈ [(0x0A : Byte)] ∧
    (∀ c, Descriptor.dummy ≠ .serialNumber c) ∧ (∀ c, Descriptor.dummy ≠ .alphanumericString c) ∧
    ∀ c, Descriptor.dummy ≠ .productName c := by
  refine ⟨by decide, by decide, by decide, ?_, ?_, ?_⟩ <;> exact nofun

/-- The header holds, and fails in each of its four bytes; the selector takes each of its three classes. -/
theorem test_witness_RegDecRangeReadsEveryField :
    (∀ selector : Byte,
      let b : Bytes 18 := ((Vector.replicate 18 0).set 3 0xFD).set 10 selector
      b[0] = 0 ∧ b[1] = 0 ∧ b[2] = 0 ∧ b[3] = 0xFD ∧ b[10] = selector) ∧
    (∀ k : Fin 4,
      let b : Bytes 18 := ((Vector.replicate 18 0).set 3 0xFD).set k 0x01
      ¬ (b[0] = 0 ∧ b[1] = 0 ∧ b[2] = 0 ∧ b[3] = 0xFD)) ∧
    (0x03 : Byte) ≠ 0x02 ∧ (0x03 : Byte) ≠ 0x04 := by
  refine ⟨fun _ => ⟨rfl, rfl, rfl, rfl, rfl⟩, ?_, by decide, by decide⟩
  decide +kernel

theorem test_witness_RegEncRangeWritesEveryByteOrRefuses :
    (∀ r, Descriptor.dummy ≠ .displayRangeLimits r) ∧
    ({ drlRange with timing := .plain 0x02 (Vector.replicate 7 0) } : Drl).timing = .plain 0x02 (Vector.replicate 7 0) ∧
    (∃ selector raw, DrlTiming.plain 0x03 (Vector.replicate 7 0) = .plain selector raw ∧ selector ≠ 0x02 ∧
      selector ≠ 0x04 ∧ [3, 0, 0, 0, 0, 0, 0, 0] = selector.toNat :: raw.toList.map BitVec.toNat) ∧
    (∃ g, DrlTiming.secondaryGtf { rsv := 0, hBreak2 := 0, c2 := 0, m := 600, k := 0, j2 := 0 } = .secondaryGtf g) ∧
    ∃ c, drlRange.timing = .cvtSupport c := by
  refine ⟨nofun, rfl, ⟨0x03, _, rfl, by decide, by decide, by decide⟩, ⟨_, rfl⟩, ⟨_, rfl⟩⟩

theorem test_witness_RegDecEt3ChecksTheMarker :
    slotEt3.length = 18 ∧
      slotEt3 = [0x00, 0x00, 0x00, 0xF7, 0x00, 0x0A] ++ et3Record.bitmap.toList ++ et3Record.rsv.toList ∧
      slotDummy.length = 18 ∧ slotDummy.take 6 ≠ [0x00, 0x00, 0x00, 0xF7, 0x00, 0x0A] := by decide

theorem test_witness_RegEncEt3WritesTheSlot : ∀ e, Descriptor.dummy ≠ .establishedTimingsIII e :=
  nofun

/-- One slot and one descriptor for each of the six pairs. -/
theorem test_witness_RegistryRoundTrip :
    (decodesTo .regDecDummy slotDummy .dummy ∧ encodesTo .regEncDummy .dummy slotDummy) ∧
    (decodesTo .regDecSerial slotSerial (.serialNumber textSerial) ∧
      encodesTo .regEncSerial (.serialNumber textSerial) slotSerial) ∧
    (decodesTo .regDecAlnum slotAlnum (.alphanumericString [0x4C, 0x47]) ∧
      encodesTo .regEncAlnum (.alphanumericString [0x4C, 0x47]) slotAlnum) ∧
    (decodesTo .regDecRange slotRange (.displayRangeLimits drlRange) ∧
      encodesTo .regEncRange (.displayRangeLimits drlRange) slotRange) ∧
    (decodesTo .regDecName slotName (.productName textName) ∧ encodesTo .regEncName (.productName textName) slotName) ∧
    decodesTo .regDecEt3 slotEt3 (.establishedTimingsIII et3Record) ∧
      encodesTo .regEncEt3 (.establishedTimingsIII et3Record) slotEt3 := by
  simp only [decodesTo_iff, encodesTo_iff]
  decide +kernel

theorem test_witness_RegistryVariantsAreDisjoint :
    decodesTo registryDecInstrs[1] slotSerial (.serialNumber textSerial) ∧
    registryDecoders.reverse.Perm registryDecoders ∧
    (∀ t, Descriptor.dummy ≠ .detailedTiming t) ∧ (∀ raw, Descriptor.dummy ≠ .opaqueSlot raw) ∧ (0 : Fin 6) ≠ 1 := by
  refine ⟨test_witness_RegistryRoundTrip.2.1.1, List.reverse_perm _, nofun, nofun,
    by decide⟩

/-- A slot for each case: a clock, a byte 2, a registry member, and a slot no registry decoder takes. -/
theorem test_witness_SlotDecDispatches :
    ((Vector.replicate 18 0 : Bytes 18).set 1 1)[1] ≠ 0 ∧
    (let b : Bytes 18 := (Vector.replicate 18 0).set 2 1
     b[0] = 0 ∧ b[1] = 0 ∧ b[2] ≠ 0) ∧
    (let b : Bytes 18 := (Vector.replicate 18 0).set 3 0x10
     (b[0] = 0 ∧ b[1] = 0 ∧ b[2] = 0) ∧ decodesTo registryDecInstrs[(0 : Fin 6)] b.toList .dummy) ∧
    (let b : Bytes 18 := Vector.replicate 18 0
     (b[0] = 0 ∧ b[1] = 0 ∧ b[2] = 0) ∧
      ∀ k : Fin 6, endsWith registryDecInstrs[k] (.bytes b.toList) .notThisType) := by
  simp only [decodesTo_iff, endsWith_iff]
  decide +kernel

theorem test_witness_SlotEncChoosesTheEncoder :
    (∀ t, Descriptor.productName textName ≠ .detailedTiming t) ∧
    (∀ raw, Descriptor.productName textName ≠ .opaqueSlot raw) ∧
    (¬ endsWith registryEncInstrs[(4 : Fin 6)] (.descIn (.productName textName)) .doesNotApply) ∧
    (Descriptor.productName textName).encodable = true ∧
    (Descriptor.productName (List.replicate 14 0x41)).encodable = false := by
  refine ⟨nofun, nofun, ?_, by decide, by decide⟩
  rw [endsWith_iff]
  decide +kernel

/-- A registry member, and an opaque slot that decodes as itself. -/
theorem test_witness_SlotRoundTrip :
    slotName.length = 18 ∧ encodesTo .slotEnc (.productName textName) slotName ∧
    encodesTo .slotEnc (.opaqueSlot (Vector.replicate 18 0)) (List.replicate 18 0) ∧
    decodesTo .slotDec (List.replicate 18 0) (.opaqueSlot (Vector.replicate 18 0)) := by
  simp only [decodesTo_iff, encodesTo_iff]
  decide +kernel

/-- Every way out of the domain: the selectors beside the four named ones, a rate of 0, a period of 0, no pixels, no
lines. -/
theorem test_witness_CvtGenRefusesOutsideItsDomain :
    3 < (cvtArgs 8 1 1 4).rb.toNat ∧ 3 < (cvtArgs 8 1 1 255).rb.toNat ∧
    ¬ cvtStandardInDomain (cvtArgs 8 1 0 0) ∧ ¬ cvtStandardInDomain (cvtArgs 8 1 (20000 / 11) 0) ∧
    ¬ cvtStandardInDomain (cvtArgs 7 1 60 0) ∧
    ¬ cvtReducedInDomain (cvtArgs 8 1 0 1) ∧ ¬ cvtReducedInDomain (cvtArgs 8 1 (50000 / 23) 2) ∧
    ¬ cvtReducedInDomain (cvtArgs 8 0 60 3) ∧
    ¬ cvtReducedInDomain { cvtArgs 8 1 60 1 with interlaced := true } := by
  unfold cvtStandardInDomain cvtReducedInDomain
  decide +kernel

theorem test_witness_CvtStandardBlankingFollowsTheFormula :
    (cvtArgs 8 0 (1 / 10) 0).rb = 0 ∧ cvtStandardInDomain (cvtArgs 8 0 (1 / 10) 0) ∧
      cvtStandardInDomain (cvtArgs 1920 1080 1818 0) := by
  unfold cvtStandardInDomain
  decide +kernel

/-- Each sub-variant, at the smallest number of lines. -/
theorem test_witness_CvtReducedBlankingFollowsTheFormula :
    (∀ rb ∈ [1, 2, 3], 1 ≤ (cvtArgs 0 1 60 rb).rb.toNat ∧ (cvtArgs 0 1 60 rb).rb.toNat ≤ 3) ∧
    cvtReducedInDomain (cvtArgs 0 1 60 1) ∧ cvtReducedInDomain (cvtArgs 1920 1080 2173 2) ∧
    cvtReducedInDomain { cvtArgs 0 2 60 3 with interlaced := true } := by
  unfold cvtReducedInDomain
  decide +kernel

theorem test_witness_CvtTimingsKeepTheInvariants :
    ((cvtArgs 8 0 60 0).rb = 0 ∧ cvtStandardInDomain (cvtArgs 8 0 60 0)) ∧
    (1 ≤ (cvtArgs 0 1 60 3).rb.toNat ∧ (cvtArgs 0 1 60 3).rb.toNat ≤ 3 ∧ cvtReducedInDomain (cvtArgs 0 1 60 3)) := by
  unfold cvtStandardInDomain cvtReducedInDomain
  decide +kernel

/-- Every way out of the domain: a rate of 0, a period of 0, and a duty cycle of 100. -/
theorem test_witness_GtfGenRefusesOutsideItsDomain :
    ¬ gtfInDomain (gtfArgs 640 480 0) ∧ ¬ gtfInDomain (gtfArgs 640 480 (20000 / 11)) ∧
    ¬ gtfInDomain { gtfArgs 640 480 60 with m := 0, c := 100, k := 256, j := 0 } := by
  unfold gtfInDomain
  decide +kernel

theorem test_witness_GtfFollowsTheFormula :
    gtfInDomain (gtfArgs 640 480 60) ∧ gtfInDomain (gtfArgs 0 0 1818) ∧
      gtfInDomain { gtfArgs 1024 768 43 with interlaced := true, margins := true } := by
  unfold gtfInDomain
  decide +kernel

theorem test_witness_GtfTimingsKeepTheInvariants : gtfInDomain (gtfArgs 0 0 1818) :=
  test_witness_GtfFollowsTheFormula.2.1

end Sys2Proof.Tests
end

section
/-! The transaction interface: what a step and a full run do with the requests issued, by `responseTo` alone. -/

namespace Sys2Proof.Machine

/-- With requests issued, a step answers the oldest by the function of that request alone (R22, R343). -/
theorem step_answers_oldest {s : State} {r : Request} {rest : List Request} (h : s.pending = r :: rest) :
    step s = .next { pending := rest, responses := s.responses ++ [responseTo r] } := by
  rw [step_serves s r rest h, serve_eq]

/-- A step that goes on: one step of a run, then the rest of it. -/
theorem core_run_succ {s t : State} (n : Nat) (h : step s = .next t) : core.run (n + 1) s = core.run n t := by
  have hcore : core.step s = .next t := h
  simp only [Host.Core.run, hcore]

/-- R70: a full run answers every request in order, each by the function of the request alone. -/
theorem core_run_pending (ps : List Request) (rs : List Response) :
    core.run ps.length { pending := ps, responses := rs } =
      .next { pending := [], responses := rs ++ ps.map responseTo } := by
  induction ps generalizing rs with
  | nil => simp [Host.Core.run]
  | cons r rest ih =>
    rw [List.length_cons, core_run_succ _ (step_answers_oldest rfl), ih]
    simp

/-- Settles O8: both steps answer with `responseTo r`. -/
theorem responsesDependOnTheRequestAlone : Obligations.ResponsesDependOnTheRequestAlone := by
  intro s t r restS restT hs ht
  exact ⟨responseTo r, step_answers_oldest hs, step_answers_oldest ht⟩

/-- Settles O10: a full run pairs each request with `responseTo` of it, so permuting the requests permutes the pairs. -/
theorem everyOrderGivesEachRequestItsResponse : Obligations.EveryOrderGivesEachRequestItsResponse := by
  intro s t hperm
  have hpairs : (s.pending.zip (s.pending.map responseTo)).Perm (t.pending.zip (t.pending.map responseTo)) := by
    rw [← List.map_prod_left_eq_zip, ← List.map_prod_left_eq_zip]
    exact hperm.map _
  exact ⟨s.pending.map responseTo, t.pending.map responseTo, core_run_pending _ _, core_run_pending _ _, hpairs,
    List.length_map _, List.length_map _⟩

/-- Settles O13: the reset state holds no response and no request. -/
theorem resetSatisfiesTheInvariant : Obligations.ResetSatisfiesTheInvariant :=
  ⟨fun r hr => absurd hr (by simp), reset_pending⟩

end Sys2Proof.Machine
end

section
/-! How an operation can end: with a result that meets a condition, or with a status other than `OK`. -/

namespace Sys2Proof.Machine

/-- The computation returns a value that meets `P`, or raises a status other than `OK` (R12, R314). -/
def EndsWell {α : Type} (P : α → Prop) (x : Except Status α) : Prop :=
  match x with
  | .ok v => P v
  | .error e => e ≠ .ok

@[simp] theorem endsWell_ok {α : Type} (P : α → Prop) (v : α) : EndsWell P (.ok v) ↔ P v := Iff.rfl

@[simp] theorem endsWell_error {α : Type} (P : α → Prop) (e : Status) : EndsWell P (.error e) ↔ e ≠ .ok := Iff.rfl

theorem EndsWell.map {α β : Type} {P : α → Prop} {Q : β → Prop} {x : Except Status α} {f : α → β}
    (hx : EndsWell P x) (hf : ∀ v, P v → Q (f v)) : EndsWell Q (x.map f) := by
  cases x with
  | error e => exact hx
  | ok v => exact hf v hx

@[simp] theorem resultWellFormed_cvt3 (c : CvtCode) : resultWellFormed (.cvt3 c) ↔ c.encodable = true := Iff.rfl

@[simp] theorem resultWellFormed_desc (d : Descriptor) : resultWellFormed (.desc d) ↔ d.encodable = true := Iff.rfl

/-- A response is well formed exactly when its answer ends well. -/
theorem responseWellFormed_responseOf (a : Answer) :
    responseWellFormed (responseOf a) ↔ EndsWell resultWellFormed a := by
  cases a <;> simp [responseWellFormed]

/-- Reading a byte string of a fixed length: refused, or the string (R65, R83). -/
theorem bytesOperandOf_cases (n : Nat) (o : Operand) :
    (∃ e, e ≠ .ok ∧ bytesOperandOf n o = .error e) ∨ ∃ b, bytesOperandOf n o = .ok b := by
  by_cases hkind : o.kind = .bytes
  · obtain ⟨l, rfl⟩ : ∃ l, o = .bytes l := by cases o <;> simp_all [Operand.kind]
    by_cases hlength : l.length = n
    · obtain ⟨b, -, hb⟩ := bytesOperandOf_length n l hlength
      exact .inr ⟨b, hb⟩
    · exact .inl ⟨_, by decide, bytesOperandOf_otherLength n l hlength⟩
  · exact .inl ⟨_, by decide, bytesOperandOf_other n o hkind⟩

end Sys2Proof.Machine
end

section
/-! The checksum unit and the codecs: every result is well formed. -/

namespace Sys2Proof.Machine

/-! ## Checksum unit -/

theorem chkCompute_endsWell (o : Operand) : EndsWell resultWellFormed (chkCompute unitConfig o) := by
  cases o with
  | bytes b => trivial
  | _ => simp [chkCompute, bytesOperand]

theorem chkValidate_endsWell (o : Operand) : EndsWell resultWellFormed (chkValidate o) := by
  obtain ⟨e, he, h⟩ | ⟨b, h⟩ := bytesOperandOf_cases 128 o
  · simpa [chkValidate, h] using he
  · simp [chkValidate, h, resultWellFormed]

theorem chkSeal_endsWell (o : Operand) : EndsWell resultWellFormed (chkSeal o) := by
  obtain ⟨e, he, h⟩ | ⟨b, h⟩ := bytesOperandOf_cases 128 o
  · simpa [chkSeal, h] using he
  · simp [chkSeal, h, resultWellFormed, blockBody]

/-! ## Field codecs -/

/-- R29, R152: what the two bytes can hold for the five refresh bits of this hardware. -/
theorem stdDecode_inRange {b : Bytes 2} {t : StdTiming} (h : stdDecode 5 b = some t) : stdTimingInRange t := by
  unfold stdDecode at h
  split at h
  · cases h
  · obtain rfl := Option.some.inj h
    have hactive := b[0].isLt
    have hrefresh := (b[1].extractLsb' 0 5).isLt
    simp only [stdTimingInRange]
    omega

theorem stdDec_endsWell (o : Operand) : EndsWell resultWellFormed (stdDec unitConfig o) := by
  obtain ⟨e, he, h⟩ | ⟨b, h⟩ := bytesOperandOf_cases 2 o
  · simpa [stdDec, h] using he
  · simp only [stdDec, h, unitConfig_stdRefreshBits, RefreshBits.width, endsWell_ok]
    cases ht : stdDecode 5 b with
    | none => trivial
    | some t => exact stdDecode_inRange ht

theorem stdEncode_endsWell (w : Nat) (t : Option StdTiming) :
    EndsWell (fun l => l.length = 2) (stdEncode w t) := by
  cases t with
  | none => rfl
  | some t =>
    simp only [stdEncode, raise_eq]
    split_ifs <;> simp

theorem stdEnc_endsWell (o : Operand) : EndsWell resultWellFormed (stdEnc unitConfig o) := by
  cases o with
  | stdIn t => exact (stdEncode_endsWell _ t).map fun _ hlength => .inl hlength
  | _ => simp [stdEnc, stdOperand]

theorem cvtCode_encodable_iff (c : CvtCode) :
    c.encodable = true ↔ c.vActive % 2 = 0 ∧ 2 ≤ c.vActive ∧ c.vActive ≤ 8192 := by
  simp [CvtCode.encodable, and_assoc]

/-- R155, R157: a decoded line count is even and at most 8192. -/
theorem cvt3Decode_encodable (b : Bytes 3) : (cvt3Decode b).encodable = true := by
  have hlines := (field b[1] 7 4 ++ b[0]).isLt
  simp only [cvtCode_encodable_iff, cvt3Decode]
  omega

theorem cvt3Dec_endsWell (o : Operand) : EndsWell resultWellFormed (cvt3Dec o) := by
  obtain ⟨e, he, h⟩ | ⟨b, h⟩ := bytesOperandOf_cases 3 o
  · simpa [cvt3Dec, h] using he
  · simpa [cvt3Dec, h] using cvt3Decode_encodable b

theorem cvt3Encode_endsWell (c : CvtCode) : EndsWell (fun l => l.length = 3) (cvt3Encode c) := by
  simp only [cvt3Encode, raise_eq]
  split_ifs <;> simp

theorem cvt3Enc_endsWell (o : Operand) : EndsWell resultWellFormed (cvt3Enc o) := by
  cases o with
  | cvt3In c => exact (cvt3Encode_endsWell c).map fun _ hlength => .inr (.inl hlength)
  | _ => simp [cvt3Enc, cvt3Operand]

/-! ## Detailed timings -/

theorem resultWellFormed_slot {l : List Byte} (h : l.length = 18) : resultWellFormed (.bytes l) :=
  .inr (.inr (.inl h))

/-- R102: a decoded sync has the nullability of R32. -/
theorem syncDecode_wellFormed (f : Byte) : (syncDecode f).wellFormed = true := by
  unfold syncDecode
  split_ifs <;> rfl

/-- R170, R172: the clock of a slot that is a timing is not zero. -/
theorem dtdDecode_encodable {b : Bytes 18} (h : isTiming b = true) : (dtdDecode b).encodable = true := by
  have hclock : (b[1] ++ b[0] : BitVec 16) ≠ 0 := by
    simp only [isTiming, Bool.or_eq_true, bne_iff_ne] at h
    intro hzero
    have hbits : b[1].toNat <<< 8 ||| b[0].toNat = 0 :=
      (BitVec.toNat_append b[1] b[0]).symm.trans (congrArg BitVec.toNat hzero)
    rw [Nat.or_eq_zero_iff, Nat.shiftLeft_eq_zero_iff] at hbits
    bv_omega
  simpa [Dtd.encodable, dtdDecode, syncDecode_wellFormed] using hclock

theorem dtdDec_endsWell (o : Operand) : EndsWell resultWellFormed (dtdDec o) := by
  obtain ⟨e, he, h⟩ | ⟨b, h⟩ := bytesOperandOf_cases 18 o
  · simpa [dtdDec, h] using he
  · simp only [dtdDec, h, raise_eq]
    split_ifs with htiming
    · exact dtdDecode_encodable htiming
    · simp

theorem syncEncode_endsWell (y : Sync) : EndsWell (fun _ => True) (syncEncode y) := by
  unfold syncEncode
  split <;> simp

theorem dtdEncode_endsWell (d : Dtd) : EndsWell (fun l => l.length = 18) (dtdEncode d) := by
  have hsync := syncEncode_endsWell d.sync
  unfold dtdEncode
  split_ifs
  · simp
  · cases h : syncEncode d.sync with
    | error e => simpa [h] using hsync
    | ok bits => simp [dtdBytes]

theorem dtdEnc_endsWell (o : Operand) : EndsWell resultWellFormed (dtdEnc o) := by
  cases o with
  | dtdIn d => exact (dtdEncode_endsWell d).map fun _ => resultWellFormed_slot
  | _ => simp [dtdEnc, dtdOperand]

end Sys2Proof.Machine
end

section
/-! The registry and the slot dispatcher: every decoder answers a descriptor that its encoder accepts, and every
encoder 18 bytes. -/

namespace Sys2Proof.Machine

/-! ## Decoders -/

theorem payload_length (b : Bytes 18) : (payload b).length = 13 := by
  simp [payload]

/-- R192: content read from a payload fits a payload and has no line feed. -/
theorem strDec_encodable {p s : List Byte} (hp : p.length = 13) (h : strDec p = some s) :
    stringEncodable s = true := by
  suffices hs : s.length ≤ 13 ∧ (0x0A : Byte) ∉ s by simpa [stringEncodable] using hs
  unfold strDec at h
  split at h
  next hnone =>
    obtain rfl := Option.some.inj h
    rw [List.dropWhile_eq_nil_iff] at hnone
    exact ⟨hp.le, fun hmem => by simpa using hnone _ hmem⟩
  next =>
    split_ifs at h
    obtain rfl := Option.some.inj h
    exact ⟨hp ▸ (List.takeWhile_sublist _).length_le, fun hmem => by simpa using List.mem_takeWhile_imp hmem⟩

theorem dummyDecode_endsWell (b : Bytes 18) : EndsWell (fun d => d.encodable = true) (dummyDecode b) := by
  simp only [dummyDecode, raise_eq]
  split_ifs <;> simp [Descriptor.encodable]

/-- The three string decoders at once (R195). -/
theorem stringDecode_endsWell (tag : Byte) {variant : List Byte → Descriptor}
    (hvariant : ∀ s, (variant s).encodable = stringEncodable s) (b : Bytes 18) :
    EndsWell (fun d => d.encodable = true) (stringDecode tag variant b) := by
  unfold stringDecode
  split_ifs
  · cases h : strDec (payload b) with
    | none => simp
    | some s => simpa [hvariant] using strDec_encodable (payload_length b) h
  · simp

/-- R202, R204: a decoded `plain` timing carries neither selector of the other two forms. -/
theorem drlTimingDecode_encodable (b : Bytes 18) : (drlTimingDecode b).encodable = true := by
  unfold drlTimingDecode
  split_ifs with hgtf hcvt
  · rfl
  · rfl
  · simpa [DrlTiming.encodable] using And.intro hgtf hcvt

theorem rangeDecode_endsWell (b : Bytes 18) : EndsWell (fun d => d.encodable = true) (rangeDecode b) := by
  unfold rangeDecode
  split_ifs
  · exact drlTimingDecode_encodable b
  · simp

theorem et3Decode_endsWell (b : Bytes 18) : EndsWell (fun d => d.encodable = true) (et3Decode b) := by
  simp only [et3Decode, raise_eq]
  split_ifs <;> simp [Descriptor.encodable]

theorem regDec_endsWell {decoder : Bytes 18 → Except Status Descriptor}
    (hdecoder : ∀ b, EndsWell (fun d => d.encodable = true) (decoder b)) (o : Operand) :
    EndsWell resultWellFormed (regDec decoder o) := by
  obtain ⟨e, he, h⟩ | ⟨b, h⟩ := bytesOperandOf_cases 18 o
  · simpa [regDec, h] using he
  · simp only [regDec, h]
    exact (hdecoder b).map fun _ hd => hd

theorem registryDecoders_endWell :
    ∀ f ∈ registryDecoders, ∀ b, EndsWell (fun d => d.encodable = true) (f b) := by
  simp only [registryDecoders, List.forall_mem_cons]
  exact ⟨dummyDecode_endsWell, stringDecode_endsWell _ fun _ => rfl, stringDecode_endsWell _ fun _ => rfl,
    rangeDecode_endsWell, stringDecode_endsWell _ fun _ => rfl, et3Decode_endsWell, by simp⟩

/-- R210: what the first accepting decoder answers, some decoder of the table answers. -/
theorem firstAccepting_some {ds : List (Bytes 18 → Except Status Descriptor)} {b : Bytes 18} {d : Descriptor}
    (h : firstAccepting ds b = some d) : ∃ f ∈ ds, f b = .ok d := by
  induction ds with
  | nil => cases h
  | cons f rest ih =>
    cases hf : f b with
    | ok d' =>
      simp only [firstAccepting, hf] at h
      exact ⟨f, by simp, by rw [hf, Option.some.inj h]⟩
    | error e =>
      simp only [firstAccepting, hf] at h
      obtain ⟨g, hg, hgb⟩ := ih h
      exact ⟨g, by simp [hg], hgb⟩

theorem regDecode_encodable {b : Bytes 18} {d : Descriptor} (h : regDecode b = some d) : d.encodable = true := by
  obtain ⟨f, hf, hfb⟩ := firstAccepting_some h
  simpa [hfb] using registryDecoders_endWell f hf b

/-- R211, R212: SLOT_ENC accepts every descriptor that SLOT_DEC can answer. -/
theorem slotDecode_encodable (b : Bytes 18) : (slotDecode b).encodable = true := by
  unfold slotDecode
  split_ifs with htiming
  · exact dtdDecode_encodable htiming
  · rfl
  · cases h : regDecode b with
    | none => rfl
    | some d => exact regDecode_encodable h

theorem slotDec_endsWell (o : Operand) : EndsWell resultWellFormed (slotDec o) := by
  obtain ⟨e, he, h⟩ | ⟨b, h⟩ := bytesOperandOf_cases 18 o
  · simpa [slotDec, h] using he
  · simpa [slotDec, h] using slotDecode_encodable b

/-! ## Encoders -/

theorem strEnc_endsWell (c : List Byte) : EndsWell (fun p => p.length = 13) (strEnc c) := by
  simp only [strEnc, raise_eq]
  split_ifs with hbad hfull
  · simp
  · exact hfull
  · simp only [endsWell_ok, List.length_append, List.length_replicate, List.length_singleton]
    omega

theorem stringEncode_endsWell (tag : Byte) (s : List Byte) :
    EndsWell (fun l => l.length = 18) (stringEncode tag s) := by
  have hpayload := strEnc_endsWell s
  unfold stringEncode
  cases h : strEnc s with
  | error e => simpa [h] using hpayload
  | ok p => simpa [h] using hpayload

theorem dummyEncode_endsWell (d : Descriptor) : EndsWell (fun l => l.length = 18) (dummyEncode d) := by
  cases d <;> simp [dummyEncode]

theorem serialEncode_endsWell (d : Descriptor) : EndsWell (fun l => l.length = 18) (serialEncode d) := by
  cases d with
  | serialNumber s => exact stringEncode_endsWell _ s
  | _ => simp [serialEncode]

theorem alnumEncode_endsWell (d : Descriptor) : EndsWell (fun l => l.length = 18) (alnumEncode d) := by
  cases d with
  | alphanumericString s => exact stringEncode_endsWell _ s
  | _ => simp [alnumEncode]

theorem nameEncode_endsWell (d : Descriptor) : EndsWell (fun l => l.length = 18) (nameEncode d) := by
  cases d with
  | productName s => exact stringEncode_endsWell _ s
  | _ => simp [nameEncode]

theorem drlTimingEncode_endsWell (t : DrlTiming) : EndsWell (fun l => l.length = 8) (drlTimingEncode t) := by
  cases t with
  | plain selector raw =>
    simp only [drlTimingEncode, raise_eq]
    split_ifs <;> simp
  | secondaryGtf g => rfl
  | cvtSupport c => rfl

theorem rangeEncode_endsWell (d : Descriptor) : EndsWell (fun l => l.length = 18) (rangeEncode d) := by
  cases d with
  | displayRangeLimits r =>
    have htail := drlTimingEncode_endsWell r.timing
    cases h : drlTimingEncode r.timing with
    | error e => simpa [rangeEncode, h] using htail
    | ok rest => simpa [rangeEncode, drlHead, h] using htail
  | _ => simp [rangeEncode]

theorem et3Encode_endsWell (d : Descriptor) : EndsWell (fun l => l.length = 18) (et3Encode d) := by
  cases d <;> simp [et3Encode]

theorem regEnc_endsWell {encoder : Descriptor → Except Status (List Byte)}
    (hencoder : ∀ d, EndsWell (fun l => l.length = 18) (encoder d)) (o : Operand) :
    EndsWell resultWellFormed (regEnc encoder o) := by
  cases o with
  | descIn d => exact (hencoder d).map fun _ => resultWellFormed_slot
  | _ => simp [regEnc, descOperand]

theorem slotEncode_endsWell (d : Descriptor) : EndsWell (fun l => l.length = 18) (slotEncode d) := by
  cases d with
  | detailedTiming t => exact dtdEncode_endsWell t
  | dummy => exact dummyEncode_endsWell .dummy
  | serialNumber s => exact serialEncode_endsWell (.serialNumber s)
  | alphanumericString s => exact alnumEncode_endsWell (.alphanumericString s)
  | displayRangeLimits r => exact rangeEncode_endsWell (.displayRangeLimits r)
  | productName s => exact nameEncode_endsWell (.productName s)
  | establishedTimingsIII e => exact et3Encode_endsWell (.establishedTimingsIII e)
  | opaqueSlot raw => simp [slotEncode]

theorem slotEnc_endsWell (o : Operand) : EndsWell resultWellFormed (slotEnc o) := by
  cases o with
  | descIn d => exact (slotEncode_endsWell d).map fun _ => resultWellFormed_slot
  | _ => simp [slotEnc, descOperand]

end Sys2Proof.Machine
end

section
/-! The exact arithmetic: floors and rounded values of what is not negative. -/

namespace Sys2Proof

theorem floorQ_nonneg {x : ℚ} (h : 0 ≤ x) : 0 ≤ floorQ x := by
  have hfloor : 0 ≤ ⌊x⌋ := Int.floor_nonneg.2 h
  unfold floorQ
  exact_mod_cast hfloor

theorem roundQ_nonneg {x : ℚ} (h : 0 ≤ x) : 0 ≤ roundQ x :=
  floorQ_nonneg (by linarith)

/-- What is not negative has a natural number for its floor. -/
theorem floorQ_eq_natCast {x : ℚ} (h : 0 ≤ x) : ∃ n : ℕ, floorQ x = n :=
  ⟨⌊x⌋.toNat, by
    have hfloor : (⌊x⌋.toNat : ℤ) = ⌊x⌋ := Int.toNat_of_nonneg (Int.floor_nonneg.2 h)
    unfold floorQ
    exact_mod_cast hfloor.symm⟩

theorem roundQ_eq_natCast {x : ℚ} (h : 0 ≤ x) : ∃ n : ℕ, roundQ x = n :=
  floorQ_eq_natCast (by linarith)

end Sys2Proof
end

section
/-! CVT_GEN: every timing of both models meets the relations of R255. -/

namespace Sys2Proof.Machine

/-! ## The shared steps of R244 -/

theorem cvtSetup_hRnd (a : CvtGenArgs) :
    (cvtSetup exactArithmetic a).hRnd = floorQ (a.hActive / cvtCellGran) * cvtCellGran := rfl

theorem cvtSetup_left (a : CvtGenArgs) :
    (cvtSetup exactArithmetic a).left =
      if a.margins then
        floorQ ((cvtSetup exactArithmetic a).hRnd * cvtMarginPer / 100 / cvtCellGran) * cvtCellGran
      else 0 := rfl

theorem cvtSetup_tap (a : CvtGenArgs) :
    (cvtSetup exactArithmetic a).tap =
      (cvtSetup exactArithmetic a).hRnd + 2 * (cvtSetup exactArithmetic a).left := rfl

theorem cvtSetup_vRnd (a : CvtGenArgs) :
    (cvtSetup exactArithmetic a).vRnd = if a.interlaced then floorQ (a.vActive / 2) else (a.vActive : ℚ) := rfl

theorem cvtSetup_top (a : CvtGenArgs) :
    (cvtSetup exactArithmetic a).top =
      if a.margins then floorQ (cvtMarginPer / 100 * (cvtSetup exactArithmetic a).vRnd) else 0 := rfl

theorem cvtSetup_il (a : CvtGenArgs) :
    (cvtSetup exactArithmetic a).il = if a.interlaced then 1 / 2 else 0 := rfl

/-- The width is a whole number of cells. -/
theorem cvtSetup_hRnd_cells (a : CvtGenArgs) : ∃ n : ℕ, (cvtSetup exactArithmetic a).hRnd = 8 * n := by
  obtain ⟨n, hn⟩ := floorQ_eq_natCast (x := a.hActive / cvtCellGran) (by unfold cvtCellGran; positivity)
  exact ⟨n, by rw [cvtSetup_hRnd, hn, cvtCellGran, mul_comm]⟩

theorem cvtSetup_hRnd_nonneg (a : CvtGenArgs) : 0 ≤ (cvtSetup exactArithmetic a).hRnd := by
  obtain ⟨n, hn⟩ := cvtSetup_hRnd_cells a
  rw [hn]
  positivity

theorem cvtSetup_left_nonneg (a : CvtGenArgs) : 0 ≤ (cvtSetup exactArithmetic a).left := by
  have hwidth := cvtSetup_hRnd_nonneg a
  rw [cvtSetup_left]
  split_ifs
  · exact mul_nonneg (floorQ_nonneg (by unfold cvtMarginPer cvtCellGran; positivity)) (by norm_num [cvtCellGran])
  · rfl

theorem cvtSetup_tap_nonneg (a : CvtGenArgs) : 0 ≤ (cvtSetup exactArithmetic a).tap := by
  have hwidth := cvtSetup_hRnd_nonneg a
  have hleft := cvtSetup_left_nonneg a
  rw [cvtSetup_tap]
  positivity

theorem cvtSetup_vRnd_nonneg (a : CvtGenArgs) : 0 ≤ (cvtSetup exactArithmetic a).vRnd := by
  rw [cvtSetup_vRnd]
  split_ifs
  · exact floorQ_nonneg (by positivity)
  · positivity

theorem cvtSetup_top_nonneg (a : CvtGenArgs) : 0 ≤ (cvtSetup exactArithmetic a).top := by
  have hlines := cvtSetup_vRnd_nonneg a
  rw [cvtSetup_top]
  split_ifs
  · exact floorQ_nonneg (by unfold cvtMarginPer; positivity)
  · rfl

theorem cvtSetup_il_nonneg (a : CvtGenArgs) : 0 ≤ (cvtSetup exactArithmetic a).il := by
  rw [cvtSetup_il]
  split_ifs <;> norm_num

/-- `V_SYNC` of R245 is one of the widths of its table. -/
theorem firstAspectWidth_pos (m : AspectMatch) (v : Nat) (h : ℚ) {rows : List (ℚ × ℚ × ℚ)}
    (hrows : ∀ row ∈ rows, 0 < row.2.2) : 0 < firstAspectWidth exactArithmetic m v h rows := by
  induction rows with
  | nil => norm_num [firstAspectWidth]
  | cons row rest ih =>
    obtain ⟨ar, br, w⟩ := row
    obtain ⟨hw, hrest⟩ := List.forall_mem_cons.1 hrows
    unfold firstAspectWidth
    split_ifs
    · exact hw
    · exact ih hrest

theorem aspectWidths_pos : ∀ row ∈ aspectWidths, 0 < row.2.2 := by
  norm_num [aspectWidths]

theorem cvtVSync_pos (m : AspectMatch) (blanking : Blanking) (v : Nat) (h : ℚ) :
    0 < cvtVSync exactArithmetic m blanking v h := by
  cases blanking with
  | off => exact firstAspectWidth_pos m v h aspectWidths_pos
  | v1 => exact firstAspectWidth_pos m v h aspectWidths_pos
  | v2 => norm_num [cvtVSync]
  | v2video => norm_num [cvtVSync]

/-! ## The two models -/

/-- The relations of R255 that the model chosen by the selector has to provide, over the shared steps `u`. -/
structure CvtTimingSound (u : CvtSetup ℚ) (t : CvtTiming ℚ) : Prop where
  hBlank_cells : ∃ n : ℤ, t.hBlank = 16 * n
  hBlank_eq : t.hBlank = t.hFrontPorch + t.hSync + t.hBackPorch
  hTotal_eq : t.hTotal = u.tap + t.hBlank
  hTotal_ne_zero : t.hTotal ≠ 0
  vTotal_eq : t.vTotal = u.vRnd + 2 * u.top + (t.vFrontPorch + t.vSync + t.vBackPorch) + u.il
  vTotal_pos : 0 < t.vTotal
  polarity : t.hSyncPositive = !t.vSyncPositive

/-- `V_SYNC_BP` of R247 leaves room for the sync and the least back porch. -/
theorem le_cvtVSyncBp (vSync period : ℚ) : vSync + cvtMinVBporch ≤ cvtVSyncBp exactArithmetic vSync period := by
  simp only [cvtVSyncBp, exact_add, exact_lit, exact_lt, decide_eq_true_eq]
  split_ifs with hleast
  · exact le_rfl
  · exact not_lt.1 hleast

/-- `ACT_VBI` of R253 is at least `RB_MIN_VBI`. -/
theorem le_cvtActVbi (minVbi period : ℚ) : minVbi ≤ cvtActVbi exactArithmetic minVbi period := by
  simp only [cvtActVbi, exact_add, exact_lit, exact_lt, decide_eq_true_eq]
  split_ifs with hleast
  · exact le_rfl
  · exact not_lt.1 hleast

/-- R248: the standard blank is a whole number of double cells. -/
theorem cvtHBlank_cells (tap duty : ℚ) : ∃ n : ℤ, cvtHBlank exactArithmetic tap duty = 16 * n :=
  ⟨⌊tap * duty / (100 - duty) / (2 * cvtCellGran)⌋, by
    simp only [cvtHBlank, exact_mul, exact_floor, exact_div, exact_sub, exact_lit, floorQ]
    norm_num [cvtCellGran, mul_comm]⟩

section
variable {u : CvtSetup ℚ} (hvRnd : 0 ≤ u.vRnd) (htop : 0 ≤ u.top) (hil : 0 ≤ u.il)
include hvRnd htop hil

theorem cvtStandard_sound {vSync : ℚ} (hvSync : 0 < vSync) :
    EndsWell (CvtTimingSound u) (cvtStandard exactArithmetic u vSync) := by
  simp only [cvtStandard, raise_eq]
  split_ifs with hperiod hzero
  · simp
  · simp
  · have hbp := le_cvtVSyncBp vSync (cvtPeriodStandard exactArithmetic u)
    simp only [cvtMinVBporch] at hbp
    refine ⟨cvtHBlank_cells _ _, ?_, rfl, by simpa using hzero, ?_, ?_, rfl⟩
    · simp only [exact_sub, exact_div, exact_lit]
      ring
    · simp only [exact_add, exact_sub, exact_mul, exact_lit, cvtLines]
      ring
    · simp only [exact_add, exact_mul, exact_lit, cvtLines, cvtMinVPorch]
      linarith

/-- R252 to R254: a row of R242 whose blank is split by its porches, and porches that leave the sync its lines. -/
theorem cvtReduced_sound (htap : 0 ≤ u.tap) {vSync minVbi : ℚ} {k : RbConstants} {frontPorch backPorch : ℚ → ℚ}
    (hcells : ∃ n : ℕ, k.hBlank = 16 * (n + 1)) (hblank : k.hBlank = k.hFporch + k.hSync + k.hBporch)
    (hmin : 0 < minVbi) (hporches : ∀ vbi, frontPorch vbi + vSync + backPorch vbi = vbi) :
    EndsWell (CvtTimingSound u) (cvtReduced exactArithmetic u vSync k minVbi frontPorch backPorch) := by
  simp only [cvtReduced, raise_eq]
  split_ifs with hden hperiod
  · simp
  · simp
  · obtain ⟨n, hn⟩ := hcells
    have hvbi := le_cvtActVbi minVbi
      ((1000000 / u.vFieldRate - cvtRbMinVBlank) / cvtLines exactArithmetic u)
    have hpos : 0 < k.hBlank := by rw [hn]; positivity
    refine ⟨⟨n + 1, by simp [hn]⟩, hblank, rfl, ?_, ?_, ?_, rfl⟩
    · simp only [exact_add, exact_lit]
      exact (add_pos_of_nonneg_of_pos htap hpos).ne'
    · simp only [exact_add, exact_mul, exact_lit, hporches]
      ring
    · simp only [exact_add, exact_sub, exact_div, exact_mul, exact_lit]
      linarith

theorem cvtReducedV1_sound (htap : 0 ≤ u.tap) {vSync : ℚ} (hvSync : 0 < vSync) :
    EndsWell (CvtTimingSound u) (cvtReducedV1 exactArithmetic u vSync) :=
  cvtReduced_sound hvRnd htop hil htap ⟨9, by norm_num [rbConstantsV1]⟩ (by norm_num [rbConstantsV1])
    (by simp only [exact_add, exact_lit]; linarith) fun vbi => by simp only [exact_sub, exact_lit]; ring

theorem cvtReducedV2_sound (htap : 0 ≤ u.tap) {k : RbConstants} (hcells : k.hBlank = 80)
    (hblank : k.hBlank = k.hFporch + k.hSync + k.hBporch) :
    EndsWell (CvtTimingSound u) (cvtReducedV2 exactArithmetic u 8 k) :=
  cvtReduced_sound hvRnd htop hil htap ⟨4, by norm_num [hcells]⟩ hblank (by norm_num) fun vbi => by
    simp only [exact_sub, exact_lit]; ring

end

/-- R240: whichever model the selector chooses, with the sync width of R245 for it. -/
theorem cvtTiming_sound (m : AspectMatch) (blanking : Blanking) (a : CvtGenArgs) :
    EndsWell (CvtTimingSound (cvtSetup exactArithmetic a))
      (cvtTiming exactArithmetic blanking (cvtSetup exactArithmetic a)
        (exactArithmetic.lit (cvtVSync exactArithmetic m blanking a.vActive (cvtSetup exactArithmetic a).hRnd))) := by
  have hvSync := cvtVSync_pos m blanking a.vActive (cvtSetup exactArithmetic a).hRnd
  have hvRnd := cvtSetup_vRnd_nonneg a
  have htop := cvtSetup_top_nonneg a
  have hil := cvtSetup_il_nonneg a
  have htap := cvtSetup_tap_nonneg a
  cases blanking with
  | off => exact cvtStandard_sound hvRnd htop hil hvSync
  | v1 => exact cvtReducedV1_sound hvRnd htop hil htap hvSync
  | v2 => exact cvtReducedV2_sound hvRnd htop hil htap rfl (by norm_num [rbConstantsV2])
  | v2video => exact cvtReducedV2_sound hvRnd htop hil htap rfl (by norm_num [rbConstantsV2video])

/-- R255: the outputs of a sound timing satisfy the relations between the fields. -/
theorem cvtOutputs_consistent {a : CvtGenArgs} {t : CvtTiming ℚ}
    (h : CvtTimingSound (cvtSetup exactArithmetic a) t) :
    timingConsistent (cvtOutputs exactArithmetic a (cvtSetup exactArithmetic a) t) := by
  refine ⟨cvtSetup_hRnd_cells a, h.hBlank_cells, h.hBlank_eq, ?_, rfl, h.vTotal_eq, h.vTotal_pos, ?_, rfl, rfl,
    h.polarity⟩
  · exact h.hTotal_eq
  · have hne := h.hTotal_ne_zero
    simp only [cvtOutputs, exact_out, exact_div, exact_mul, exact_lit]
    field_simp

theorem cvtGenerateIn_endsWell (m : AspectMatch) (a : CvtGenArgs) :
    EndsWell timingConsistent (cvtGenerateIn exactArithmetic m a) := by
  unfold cvtGenerateIn
  cases hrb : blankingOf a.rb with
  | none => simp
  | some blanking =>
    have hsound := cvtTiming_sound m blanking a
    dsimp only
    split_ifs
    · simp
    · generalize cvtTiming exactArithmetic blanking (cvtSetup exactArithmetic a) _ = timing at hsound ⊢
      cases timing with
      | error e => exact hsound
      | ok t => exact cvtOutputs_consistent hsound

theorem cvtGen_endsWell (o : Operand) : EndsWell resultWellFormed (cvtGen unitConfig o) := by
  cases o with
  | cvtGenIn a => exact (cvtGenerateIn_endsWell .exact a).map fun _ hp => hp
  | _ => simp [cvtGen, cvtGenOperand]

end Sys2Proof.Machine
end

section
/-! GTF_GEN: every timing meets the relations of R291. -/

namespace Sys2Proof.Machine

/-! ## The vertical steps of R283 to R286 -/

theorem gtfSetup_hRnd (a : GtfGenArgs) :
    (gtfSetup exactArithmetic a).hRnd = roundQ (a.hActive / gtfCellGran) * gtfCellGran := rfl

theorem gtfSetup_vRnd (a : GtfGenArgs) :
    (gtfSetup exactArithmetic a).vRnd = if a.interlaced then roundQ (a.vActive / 2) else (a.vActive : ℚ) := rfl

theorem gtfSetup_top (a : GtfGenArgs) :
    (gtfSetup exactArithmetic a).top =
      if a.margins then roundQ (gtfMarginPer / 100 * (gtfSetup exactArithmetic a).vRnd) else 0 := rfl

theorem gtfSetup_il (a : GtfGenArgs) :
    (gtfSetup exactArithmetic a).il = if a.interlaced then 1 / 2 else 0 := rfl

/-- The width is a whole number of cells. -/
theorem gtfSetup_hRnd_cells (a : GtfGenArgs) : ∃ n : ℕ, (gtfSetup exactArithmetic a).hRnd = 8 * n := by
  obtain ⟨n, hn⟩ := roundQ_eq_natCast (x := a.hActive / gtfCellGran) (by unfold gtfCellGran; positivity)
  exact ⟨n, by rw [gtfSetup_hRnd, hn, gtfCellGran, mul_comm]⟩

theorem gtfSetup_vRnd_nonneg (a : GtfGenArgs) : 0 ≤ (gtfSetup exactArithmetic a).vRnd := by
  rw [gtfSetup_vRnd]
  split_ifs
  · exact roundQ_nonneg (by positivity)
  · positivity

theorem gtfSetup_top_nonneg (a : GtfGenArgs) : 0 ≤ (gtfSetup exactArithmetic a).top := by
  have hlines := gtfSetup_vRnd_nonneg a
  rw [gtfSetup_top]
  split_ifs
  · exact roundQ_nonneg (by unfold gtfMarginPer; positivity)
  · rfl

theorem gtfSetup_il_nonneg (a : GtfGenArgs) : 0 ≤ (gtfSetup exactArithmetic a).il := by
  rw [gtfSetup_il]
  split_ifs <;> norm_num

theorem gtfVSyncBp_nonneg {periodEst : ℚ} (h : 0 < periodEst) : 0 ≤ gtfVSyncBp exactArithmetic periodEst :=
  roundQ_nonneg (by simp only [exact_div, exact_lit, gtfMinVsyncBp]; positivity)

/-- R286: there is at least the front porch. -/
theorem gtfVTotal_pos (a : GtfGenArgs) {vSyncBp : ℚ} (h : 0 ≤ vSyncBp) :
    0 < gtfVTotal exactArithmetic (gtfSetup exactArithmetic a) vSyncBp := by
  have hvRnd := gtfSetup_vRnd_nonneg a
  have htop := gtfSetup_top_nonneg a
  have hil := gtfSetup_il_nonneg a
  simp only [gtfVTotal, gtfActiveLines, gtfMinPorch, exact_add, exact_mul, exact_lit]
  linarith

/-! ## The horizontal steps of R288 to R291 -/

/-- R289: the blank is a whole number of double cells. -/
theorem gtfHBlank_cells (tap duty : ℚ) : ∃ n : ℤ, gtfHBlank exactArithmetic tap duty = 16 * n :=
  ⟨⌊tap * duty / (100 - duty) / (2 * gtfCellGran) + 1 / 2⌋, by
    simp only [gtfHBlank, exact_mul, exact_round, exact_div, exact_sub, exact_lit, roundQ, floorQ]
    norm_num [gtfCellGran, mul_comm]⟩

theorem gtfHorizontal_endsWell (a : GtfGenArgs) {vSyncBp : ℚ} (h : 0 ≤ vSyncBp) (period : ℚ) :
    EndsWell timingConsistent
      (gtfHorizontal exactArithmetic a (gtfSetup exactArithmetic a) vSyncBp
        (gtfVTotal exactArithmetic (gtfSetup exactArithmetic a) vSyncBp) period) := by
  by_cases hduty : gtfIdealDuty exactArithmetic a period = 100
  · simp [gtfHorizontal, hduty]
  · simp only [gtfHorizontal, exact_eq, exact_lit, hduty, decide_false, Bool.false_eq_true, if_false, endsWell_ok]
    refine ⟨gtfSetup_hRnd_cells a, gtfHBlank_cells _ _, ?_, rfl, ?_, ?_, gtfVTotal_pos a h, ?_, ?_, rfl, rfl⟩
    · simp only [exact_out, exact_sub, exact_div]
      ring
    · simp only [exact_out, exact_add, exact_sub]
      ring
    · simp only [exact_out, exact_add, exact_mul, exact_lit, gtfVTotal, gtfActiveLines, gtfSetup_il]
      ring
    · simp only [exact_out, exact_div]
      ring
    · simp only [exact_out, exact_div, exact_mul]
      ring

theorem gtfGenerateIn_endsWell (a : GtfGenArgs) :
    EndsWell timingConsistent (gtfGenerateIn exactArithmetic a) := by
  simp only [gtfGenerateIn, raise_eq]
  split_ifs with hrefresh hperiod
  · simp
  · simp
  · exact gtfHorizontal_endsWell a (gtfVSyncBp_nonneg (by simpa using hperiod)) _

theorem gtfGen_endsWell (o : Operand) : EndsWell resultWellFormed (gtfGen unitConfig o) := by
  cases o with
  | gtfGenIn a => exact (gtfGenerateIn_endsWell a).map fun _ hp => hp
  | _ => simp [gtfGen, gtfGenOperand]

end Sys2Proof.Machine
end

section
/-! The invariant: every response to a request is well formed, so every step keeps the invariant. -/

namespace Sys2Proof.Machine

/-- Every instruction ends well: with a well-formed result, or with a status other than `OK`. -/
theorem answerOf_endsWell (i : Instr) : EndsWell resultWellFormed (answerOf unitConfig i) := by
  cases i with
  | chkCompute o => exact chkCompute_endsWell o
  | chkValidate o => exact chkValidate_endsWell o
  | chkSeal o => exact chkSeal_endsWell o
  | stdDec o => exact stdDec_endsWell o
  | stdEnc o => exact stdEnc_endsWell o
  | cvt3Dec o => exact cvt3Dec_endsWell o
  | cvt3Enc o => exact cvt3Enc_endsWell o
  | dtdDec o => exact dtdDec_endsWell o
  | dtdEnc o => exact dtdEnc_endsWell o
  | slotDec o => exact slotDec_endsWell o
  | slotEnc o => exact slotEnc_endsWell o
  | regDecDummy o => exact regDec_endsWell dummyDecode_endsWell o
  | regEncDummy o => exact regEnc_endsWell dummyEncode_endsWell o
  | regDecSerial o => exact regDec_endsWell (stringDecode_endsWell _ fun _ => rfl) o
  | regEncSerial o => exact regEnc_endsWell serialEncode_endsWell o
  | regDecAlnum o => exact regDec_endsWell (stringDecode_endsWell _ fun _ => rfl) o
  | regEncAlnum o => exact regEnc_endsWell alnumEncode_endsWell o
  | regDecRange o => exact regDec_endsWell rangeDecode_endsWell o
  | regEncRange o => exact regEnc_endsWell rangeEncode_endsWell o
  | regDecName o => exact regDec_endsWell (stringDecode_endsWell _ fun _ => rfl) o
  | regEncName o => exact regEnc_endsWell nameEncode_endsWell o
  | regDecEt3 o => exact regDec_endsWell et3Decode_endsWell o
  | regEncEt3 o => exact regEnc_endsWell et3Encode_endsWell o
  | cvtGen o => exact cvtGen_endsWell o
  | gtfGen o => exact gtfGen_endsWell o

/-- R82: the only way a request fails to decode. -/
theorem decode_error {r : Request} {e : Status} (h : decode r = .error e) : e = .illegalOp := by
  unfold decode at h
  split at h <;> cases h
  rfl

/-- R21, R314: every request, an illegal one included, gets a well-formed response. -/
theorem responseTo_wellFormed (r : Request) : responseWellFormed (responseTo r) := by
  unfold responseTo
  cases h : decode r with
  | error e =>
    obtain rfl := decode_error h
    simp [responseWellFormed]
  | ok i => exact (responseWellFormed_responseOf _).2 (answerOf_endsWell i)

/-- Settles O12: a step adds at most one response, a `responseTo`, and that is well formed. -/
theorem stepsKeepResponsesWellFormed : Obligations.StepsKeepResponsesWellFormed := by
  intro s t hinv hstep
  obtain ⟨-, hidle⟩ | ⟨r, rest, -, hserved⟩ := step_cases s
  · obtain rfl : s = t := by simpa [hidle] using hstep
    exact hinv
  · obtain rfl := Host.Outcome.next.inj (hserved.symm.trans hstep)
    intro q hq
    obtain hold | hnew := List.mem_append.1 hq
    · exact hinv q hold
    · exact List.mem_singleton.1 hnew ▸ responseTo_wellFormed r

end Sys2Proof.Machine
end

section
/-! Serving the request in flight: the instruction it decodes to runs, and a full run answers every request. -/

namespace Sys2Proof.Machine

/-- R66, R343: serving a request that decodes is running its instruction. -/
theorem serve_of_decode {r : Request} {i : Instr} (h : decode r = .ok i) (s : State) : serve r s = exec i s := by
  simp only [serve, h]

/-- Settles O1: the step takes the oldest request and serves it, which runs the decoded instruction. -/
theorem stepRunsTheDecodedInstruction : Obligations.StepRunsTheDecodedInstruction := by
  intro s r rest i hpending hdecode
  calc step s = serve r { pending := rest, responses := s.responses } := step_serves s r rest hpending
    _ = exec i { pending := rest, responses := s.responses } := serve_of_decode hdecode _

/-- Settles O9: `core_run_pending`, the induction over the issued requests, at the state's own two lists. -/
theorem runAnswersRequestsInOrder : Obligations.RunAnswersRequestsInOrder := fun s =>
  core_run_pending s.pending s.responses

end Sys2Proof.Machine
end

section
/-! The op-code map: `decode` and `encode` undo each other, and the op codes outside the map are those of R82. -/

namespace Sys2Proof.Machine

theorem decode_encode (i : Instr) : decode (encode i) = .ok i := by
  cases i <;> rfl

/-- R81: an instruction read from a request has the op code and the operand of that request. -/
theorem opcode_operand_of_decode {r : Request} {i : Instr} (h : decode r = .ok i) :
    i.opcode = r.op ∧ i.operand = r.operand := by
  unfold decode at h
  split at h <;> cases h
  all_goals
    next hop => exact ⟨BitVec.eq_of_toNat_eq hop.symm, rfl⟩

theorem encode_of_decode {r : Request} {i : Instr} (h : decode r = .ok i) : encode i = r := by
  obtain ⟨hop, hoperand⟩ := opcode_operand_of_decode h
  rw [encode, hop, hoperand]

/-- The eight ranges of R82. -/
def OutsideOpcodeMap (n : Nat) : Prop :=
  n = 0x00 ∨ (0x04 ≤ n ∧ n ≤ 0x0F) ∨ (0x14 ≤ n ∧ n ≤ 0x1F) ∨ (0x22 ≤ n ∧ n ≤ 0x2F) ∨
    (0x32 ≤ n ∧ n ≤ 0x3F) ∨ (0x4C ≤ n ∧ n ≤ 0x4F) ∨ (0x51 ≤ n ∧ n ≤ 0x5F) ∨ (0x61 ≤ n ∧ n ≤ 0xFF)

theorem decode_illegalOp_iff (r : Request) : decode r = .error .illegalOp ↔ OutsideOpcodeMap r.op.toNat := by
  have hbyte := r.op.isLt
  unfold decode
  split
  case h_26 =>
    simp only [OutsideOpcodeMap, true_iff, imp_false] at *
    omega
  all_goals
    next hop => simp [OutsideOpcodeMap, hop]

/-- R82: an op code the map has decodes. -/
theorem decode_of_not_outside {r : Request} (h : ¬ OutsideOpcodeMap r.op.toNat) : ∃ i, decode r = .ok i := by
  cases hdecode : decode r with
  | ok i => exact ⟨i, rfl⟩
  | error e =>
    obtain rfl := decode_error hdecode
    exact absurd ((decode_illegalOp_iff r).1 hdecode) h

/-- R82: serving a request that does not decode delivers its status and no result. -/
theorem serve_of_decode_error {r : Request} {e : Status} (h : decode r = .error e) (s : State) :
    serve r s = .next (withResponse s e none) := by
  simp only [serve, h, raise_eq, respond_error]

theorem opcodeRuns_of_encode {op : BitVec 8} {instr : Operand → Instr}
    (h : ∀ o, encode (instr o) = { op := op, operand := o }) : opcodeRuns op instr := fun o =>
  h o ▸ decode_encode (instr o)

/-- Settles O2: each row is the request of its instruction, which `decode_encode` reads back. -/
theorem opcodesRunTheirInstructions : Obligations.OpcodesRunTheirInstructions := by
  unfold Obligations.OpcodesRunTheirInstructions
  and_intros <;> exact opcodeRuns_of_encode fun _ => rfl

/-- Settles O3: `decode_encode` one way, `encode_of_decode` the other. -/
theorem decodeAndEncodeAgree : Obligations.DecodeAndEncodeAgree :=
  ⟨decode_encode, fun _ _ => encode_of_decode⟩

/-- Settles O4: the ranges of R82 are where `decode` answers `ILLEGAL_OP`, and elsewhere it keeps the operand. -/
theorem opcodesOutsideTheMapAreIllegal : Obligations.OpcodesOutsideTheMapAreIllegal := by
  intro op o n outside
  constructor
  · intro hout s rest hpending
    rw [step_serves s _ rest hpending]
    exact serve_of_decode_error ((decode_illegalOp_iff { op := op, operand := o }).2 hout) _
  · intro hin
    obtain ⟨i, hdecode⟩ := decode_of_not_outside (r := { op := op, operand := o }) hin
    exact ⟨i, hdecode, (opcode_operand_of_decode hdecode).2⟩

end Sys2Proof.Machine
end

section
/-! Wrong operands (R83): every instruction reads its operand first, and ends with the status that reading raises. -/

namespace Sys2Proof.Machine

theorem regDec_of_operand_error (decoder : Bytes 18 → Except Status Descriptor) {o : Operand} {e : Status}
    (h : bytesOperandOf 18 o = .error e) : regDec decoder o = .error e := by
  simp [regDec, h]

theorem regEnc_otherKind (encoder : Descriptor → Except Status (List Byte)) {o : Operand} (h : o.kind ≠ .descIn) :
    regEnc encoder o = .error .failMalformed := by
  simp [regEnc, descOperand_other o h]

/-- R65, R83: an instruction that takes `n` bytes ends with whatever status reading them raises. -/
theorem answerOf_of_operand_error (cfg : Config) {i : Instr} {n : Nat} {e : Status}
    (hlength : i.operandLength = some n) (h : bytesOperandOf n i.operand = .error e) :
    answerOf cfg i = .error e := by
  cases i with
  | chkValidate o | chkSeal o | stdDec o | cvt3Dec o | dtdDec o | slotDec o =>
    cases hlength
    simp only [Instr.operand] at h
    simp [answerOf, chkValidate, chkSeal, stdDec, cvt3Dec, dtdDec, slotDec, h]
  | regDecDummy o | regDecSerial o | regDecAlnum o | regDecRange o | regDecName o | regDecEt3 o =>
    cases hlength
    exact regDec_of_operand_error _ h
  | _ => cases hlength

/-- R83, the kind. -/
theorem answerOf_otherKind (cfg : Config) {i : Instr} (h : i.operand.kind ≠ i.operandKind) :
    answerOf cfg i = .error .failMalformed := by
  cases i with
  | chkCompute o => simp [answerOf, chkCompute, bytesOperand_other o h]
  | stdEnc o => simp [answerOf, stdEnc, stdOperand_other o h]
  | cvt3Enc o => simp [answerOf, cvt3Enc, cvt3Operand_other o h]
  | dtdEnc o => simp [answerOf, dtdEnc, dtdOperand_other o h]
  | slotEnc o => simp [answerOf, slotEnc, descOperand_other o h]
  | cvtGen o => simp [answerOf, cvtGen, cvtGenOperand_other o h]
  | gtfGen o => simp [answerOf, gtfGen, gtfGenOperand_other o h]
  | regEncDummy o | regEncSerial o | regEncAlnum o | regEncRange o | regEncName o | regEncEt3 o =>
    exact regEnc_otherKind _ h
  | chkValidate o | chkSeal o | stdDec o | cvt3Dec o | dtdDec o | slotDec o | regDecDummy o | regDecSerial o
  | regDecAlnum o | regDecRange o | regDecName o | regDecEt3 o =>
    exact answerOf_of_operand_error cfg rfl (bytesOperandOf_other _ o h)

/-- R65, R83, the length. -/
theorem answerOf_otherLength (cfg : Config) {i : Instr} {n : Nat} {b : List Byte}
    (hlength : i.operandLength = some n) (hoperand : i.operand = .bytes b) (h : b.length ≠ n) :
    answerOf cfg i = .error .failLength :=
  answerOf_of_operand_error cfg hlength (hoperand ▸ bytesOperandOf_otherLength n b h)

/-- Settles O5: reading the operand raises the status, and delivering it is the whole effect. -/
theorem wrongOperandsEndWithTheirStatus : Obligations.WrongOperandsEndWithTheirStatus := by
  intro i s
  constructor
  · intro hkind
    rw [exec_eq_respond, answerOf_otherKind _ hkind, respond_error]
  · intro n b _ hlength hoperand hne
    rw [exec_eq_respond, answerOf_otherLength _ hlength hoperand hne, respond_error]

end Sys2Proof.Machine
end

section
/-! Terms that several families of statements share: what an instruction refuses (R83), and that it answers `OK` exactly
when its answer is a result. -/

namespace Sys2Proof.Machine

theorem refusesOtherKinds_of_operandKind {kind : OperandKind} {instr : Operand → Instr}
    (hoperand : ∀ o, (instr o).operand = o) (hkind : ∀ o, (instr o).operandKind = kind) :
    refusesOtherKinds kind instr := fun o s hother =>
  (wrongOperandsEndWithTheirStatus (instr o) s).1 (by rwa [hoperand, hkind])

theorem refusesOtherLengths_of_operandLength {n : Nat} {instr : Operand → Instr}
    (hoperand : ∀ o, (instr o).operand = o) (hkind : ∀ o, (instr o).operandKind = .bytes)
    (hlength : ∀ o, (instr o).operandLength = some n) : refusesOtherLengths n instr := fun b s hother =>
  (wrongOperandsEndWithTheirStatus (instr (.bytes b)) s).2 n b (hkind _) (hlength _) (hoperand _) hother

/-- R21, R314: only a result is answered with `OK`, so an `OK` response names the answer. -/
theorem exec_ok_iff (i : Instr) (s : State) (r : Result) :
    exec i s = .next (withResponse s .ok (some r)) ↔ answerOf unitConfig i = .ok r := by
  rw [exec_withResponse_iff]
  cases answerOf unitConfig i <;> simp

end Sys2Proof.Machine
end

section
/-! The Checksum Unit (R140 to R144): the checksum is the one byte that brings the sum to 0 mod 256, and a block is its
body followed by byte 127. -/

namespace Sys2Proof.Machine

/-! ## Sums and checksums -/

theorem byteSum_append (a b : List Byte) : byteSum (a ++ b) = byteSum a + byteSum b := by
  simp [byteSum]

theorem byteSum_singleton (c : Byte) : byteSum [c] = c.toNat := by
  simp [byteSum]

/-- R140: the value of the checksum byte. -/
theorem checksum_toNat (b : List Byte) : (checksum b).toNat = (256 - byteSum b % 256) % 256 := by
  simp [checksum]

/-- R140: the checksum is the only byte that brings the sum to 0 mod 256. -/
theorem checksum_eq_iff (b : List Byte) (c : Byte) : checksum b = c ↔ (byteSum b + c.toNat) % 256 = 0 := by
  have hbyte := c.isLt
  rw [← BitVec.toNat_inj, checksum_toNat]
  omega

/-! ## Blocks -/

theorem toList_eq_blockBody_append (b : Bytes 128) : b.toList = blockBody b ++ [b[127]] := by
  have hlast : b.toList.drop 127 = [b[127]] := by
    rw [List.drop_eq_getElem_cons (by simp)]
    simp
  rw [blockBody, ← hlast, List.take_append_drop]

theorem byteSum_toList (b : Bytes 128) : byteSum b.toList = byteSum (blockBody b) + b[127].toNat := by
  rw [toList_eq_blockBody_append, byteSum_append, byteSum_singleton]

/-- R142: bytes 0 to 126 do not see a new byte 127. -/
theorem blockBody_set_last (b : Bytes 128) (c : Byte) : blockBody (b.set 127 c) = blockBody b := by
  rw [blockBody, Vector.toList_set, List.take_set_of_le (Nat.le_refl 127), blockBody]

theorem toList_set_last (b : Bytes 128) (c : Byte) : (b.set 127 c).toList = blockBody b ++ [c] := by
  rw [toList_eq_blockBody_append, blockBody_set_last, Vector.getElem_set_self]

/-- R141: comparing byte 127 with the checksum of the body is asking for a block sum of 0 mod 256. -/
theorem checksum_blockBody_eq_last_iff (b : Bytes 128) :
    checksum (blockBody b) = b[127] ↔ byteSum b.toList % 256 = 0 := by
  rw [checksum_eq_iff, byteSum_toList]

/-! ## What the three operations answer -/

theorem answerOf_chkCompute (b : List Byte) :
    answerOf unitConfig (.chkCompute (.bytes b)) = .ok (.byte (checksum b)) := rfl

theorem answerOf_chkValidate (b : Bytes 128) :
    answerOf unitConfig (.chkValidate (.bytes b.toList)) = .ok (.bool (checksum (blockBody b) == b[127])) := by
  simp [answerOf, chkValidate, bytesOperandOf_toList]

theorem answerOf_chkSeal (b : Bytes 128) :
    answerOf unitConfig (.chkSeal (.bytes b.toList)) =
      .ok (.bytes (blockBody b ++ [checksum (blockBody b)])) := by
  simp [answerOf, chkSeal, bytesOperandOf_toList]

theorem exec_chkCompute_eq_iff (b : List Byte) (c : Byte) (s : State) :
    exec (.chkCompute (.bytes b)) s = .next (withResponse s .ok (some (.byte c))) ↔ checksum b = c := by
  simp [exec_ok_iff, answerOf_chkCompute]

theorem exec_chkValidate_true_iff (b : Bytes 128) (s : State) :
    exec (.chkValidate (.bytes b.toList)) s = .next (withResponse s .ok (some (.bool true))) ↔
      checksum (blockBody b) = b[127] := by
  simp [exec_ok_iff, answerOf_chkValidate]

theorem exec_chkSeal_eq_iff (b : Bytes 128) (l : List Byte) (s : State) :
    exec (.chkSeal (.bytes b.toList)) s = .next (withResponse s .ok (some (.bytes l))) ↔
      blockBody b ++ [checksum (blockBody b)] = l := by
  simp [exec_ok_iff, answerOf_chkSeal]

/-! ## The laws of R144 -/

/-- A block is its own seal exactly when its byte 127 is already the checksum. -/
theorem exec_chkSeal_self_iff (b : Bytes 128) (s : State) :
    exec (.chkSeal (.bytes b.toList)) s = .next (withResponse s .ok (some (.bytes b.toList))) ↔
      checksum (blockBody b) = b[127] := by
  rw [exec_chkSeal_eq_iff, toList_eq_blockBody_append, List.append_cancel_left_eq, List.singleton_inj]

theorem exec_chkSeal_set_last (b : Bytes 128) (s : State) :
    exec (.chkSeal (.bytes b.toList)) s =
      .next (withResponse s .ok (some (.bytes (b.set 127 (checksum (blockBody b))).toList))) := by
  rw [exec_chkSeal_eq_iff, toList_set_last]

theorem exec_chkValidate_sealed (b : Bytes 128) (s : State) :
    exec (.chkValidate (.bytes (b.set 127 (checksum (blockBody b))).toList)) s =
      .next (withResponse s .ok (some (.bool true))) := by
  rw [exec_chkValidate_true_iff, blockBody_set_last, Vector.getElem_set_self]

theorem exec_chkCompute_zero_iff (b : Bytes 128) (s : State) :
    exec (.chkCompute (.bytes b.toList)) s = .next (withResponse s .ok (some (.byte 0x00))) ↔
      checksum (blockBody b) = b[127] := by
  rw [exec_chkCompute_eq_iff, checksum_eq_iff, checksum_blockBody_eq_last_iff]
  simp

/-! ## The statements -/

/-- Settles O14: the checksum is the answer, and `checksum_eq_iff` of it gives the sum of 0 mod 256. -/
theorem chkComputeAnswersTheTwosComplement : Obligations.ChkComputeAnswersTheTwosComplement := by
  refine ⟨fun _ => rfl, refusesOtherKinds_of_operandKind (fun _ => rfl) fun _ => rfl, fun b s => ?_⟩
  have hsum := (checksum_eq_iff b (checksum b)).1 rfl
  exact ⟨checksum b, (exec_chkCompute_eq_iff b _ s).2 rfl, checksum_toNat b, (Nat.mod_add_mod _ _ _).trans hsum⟩

/-- Settles O15: the flag is the comparison of R141, whose two readings are `checksum_toNat` and
`checksum_blockBody_eq_last_iff`. -/
theorem chkValidateTestsTheBlockSum : Obligations.ChkValidateTestsTheBlockSum := by
  refine ⟨fun _ => rfl, refusesOtherKinds_of_operandKind (fun _ => rfl) fun _ => rfl,
    refusesOtherLengths_of_operandLength (fun _ => rfl) (fun _ => rfl) fun _ => rfl, fun b s => ?_⟩
  refine ⟨checksum (blockBody b) == b[127], (exec_ok_iff _ _ _).2 (answerOf_chkValidate b), ?_, ?_⟩
  · rw [beq_iff_eq, ← BitVec.toNat_inj, checksum_toNat]
    rfl
  · rw [beq_iff_eq]
    exact checksum_blockBody_eq_last_iff b

/-- Settles O16: the sealed block is the body followed by its checksum, whose value is `checksum_toNat`. -/
theorem chkSealRecomputesTheLastByte : Obligations.ChkSealRecomputesTheLastByte := by
  refine ⟨fun _ => rfl, refusesOtherKinds_of_operandKind (fun _ => rfl) fun _ => rfl,
    refusesOtherLengths_of_operandLength (fun _ => rfl) (fun _ => rfl) fun _ => rfl, fun b s => ?_⟩
  exact ⟨checksum (blockBody b), (exec_chkSeal_eq_iff b _ s).2 rfl, checksum_toNat (blockBody b)⟩

/-- Settles O17: the sealed block is the block with byte 127 set to the checksum, and each of the three conditions says
that byte 127 is the checksum of the body. -/
theorem checksumLaws : Obligations.ChecksumLaws := by
  intro l s hlength
  obtain ⟨b, rfl, -⟩ := bytesOperandOf_length 128 l hlength
  refine ⟨⟨(b.set 127 (checksum (blockBody b))).toList, by simp, exec_chkSeal_set_last b s,
    exec_chkValidate_sealed b s⟩, ?_, ?_⟩
  · exact (exec_chkValidate_true_iff b s).trans (exec_chkCompute_zero_iff b s).symm
  · exact (exec_chkSeal_self_iff b s).trans (exec_chkValidate_true_iff b s).symm

end Sys2Proof.Machine
end

section
/-! Bit fields as numbers (R8, R10): a field is a quotient modulo a power of two, a concatenation is a sum. -/

namespace Sys2Proof.Machine

theorem field_toNat {w : Nat} (v : BitVec w) (hi lo : Nat) :
    (field v hi lo).toNat = v.toNat / 2 ^ lo % 2 ^ (hi - lo + 1) := by
  rw [field, BitVec.extractLsb'_toNat, Nat.shiftRight_eq_div_pow]

theorem field_eq_ofNat {w : Nat} (v : BitVec w) (hi lo : Nat) :
    field v hi lo = BitVec.ofNat (hi - lo + 1) (v.toNat / 2 ^ lo) :=
  BitVec.eq_of_toNat_eq (by rw [field_toNat, BitVec.toNat_ofNat])

theorem append_toNat {m n : Nat} (x : BitVec m) (y : BitVec n) : (x ++ y).toNat = 2 ^ n * x.toNat + y.toNat := by
  rw [BitVec.toNat_append, ← Nat.shiftLeft_add_eq_or_of_lt y.isLt, Nat.shiftLeft_eq, Nat.mul_comm]

end Sys2Proof.Machine
end

section
/-! The Standard Timing codec (R150 to R154): two bytes and a timing determine each other by arithmetic. The lemmas
leave the refresh width `w` open, as R6 does: the aspect takes two bits of byte 1, so `w ≤ 6`. -/

namespace Sys2Proof.Machine

/-! ## Bytes and timing as numbers -/

/-- R153: the bytes of a timing; `stdEncode_some` says that the encoder writes these. -/
def stdBytes (t : StdTiming) : Bytes 2 :=
  #v[BitVec.ofNat 8 (t.hActive8 - 31), BitVec.ofNat 8 (64 * t.aspect.toNat + (t.refresh - 60))]

@[simp] theorem stdBytes_zero_toNat (t : StdTiming) : (stdBytes t)[0].toNat = (t.hActive8 - 31) % 256 :=
  BitVec.toNat_ofNat _ _

@[simp] theorem stdBytes_one_toNat (t : StdTiming) :
    (stdBytes t)[1].toNat = (64 * t.aspect.toNat + (t.refresh - 60)) % 256 :=
  BitVec.toNat_ofNat _ _

/-- R152: the timing of two bytes; `stdDecode_eq` says that the decoder reads this. -/
def stdTimingOf (w : Nat) (b : Bytes 2) : StdTiming :=
  { hActive8 := b[0].toNat + 31
    aspect := BitVec.ofNat 2 (b[1].toNat / 64)
    refresh := b[1].toNat % 2 ^ w + 60 }

theorem stdTiming_encodable_iff (w : Nat) (t : StdTiming) :
    t.encodable w = true ↔ 31 ≤ t.hActive8 ∧ t.hActive8 ≤ 286 ∧ 60 ≤ t.refresh ∧ t.refresh ≤ 60 + (2 ^ w - 1) ∧
      ¬ (t.hActive8 = 32 ∧ t.aspect = 0 ∧ t.refresh = 61) := by
  obtain ⟨h, a, r⟩ := t
  simp [StdTiming.encodable, and_assoc]

/-- R151, R153: of the timings in range, the sentinel's bytes belong to `{32, 0, 61}` alone. -/
theorem stdBytes_sentinel_iff {t : StdTiming} (hlow : 31 ≤ t.hActive8) (hhigh : t.hActive8 ≤ 286)
    (hrefresh : 60 ≤ t.refresh) (hfield : t.refresh - 60 < 64) :
    (stdBytes t)[0] = 0x01 ∧ (stdBytes t)[1] = 0x01 ↔ t.hActive8 = 32 ∧ t.aspect = 0 ∧ t.refresh = 61 := by
  have haspect := t.aspect.isLt
  simp only [← BitVec.toNat_inj, stdBytes_zero_toNat, stdBytes_one_toNat, BitVec.ofNat_eq_ofNat,
    BitVec.toNat_ofNat]
  omega

section
variable {w : Nat} (hw : w ≤ 6)
include hw

theorem two_pow_dvd_of_refreshWidth : 2 ^ w ∣ 64 := Nat.pow_dvd_pow 2 hw

theorem two_pow_le_of_refreshWidth : 2 ^ w ≤ 64 := Nat.pow_le_pow_right (by decide) hw

/-- R153: byte 1 as the number its three parts make, the unused bits 0. -/
theorem stdByte1_eq {n : Nat} (hn : n < 2 ^ w) (a : BitVec 2) :
    (a ++ (BitVec.ofNat w n).setWidth 6 : Byte) = BitVec.ofNat 8 (64 * a.toNat + n) := by
  have hpow := two_pow_le_of_refreshWidth hw
  have ha := a.isLt
  apply BitVec.eq_of_toNat_eq
  rw [append_toNat, BitVec.toNat_setWidth, BitVec.toNat_ofNat, BitVec.toNat_ofNat, Nat.mod_eq_of_lt hn]
  omega

/-- R152: the low `w` bits of byte 1 do not see the aspect in bits 7 and 6. -/
theorem aspect_add_mod_two_pow (a : Nat) {n : Nat} (hn : n < 2 ^ w) : (64 * a + n) % 2 ^ w = n := by
  rw [Nat.add_mod, Nat.mod_eq_zero_of_dvd ((two_pow_dvd_of_refreshWidth hw).mul_right a), Nat.zero_add, Nat.mod_mod,
    Nat.mod_eq_of_lt hn]

theorem stdTimingOf_stdBytes {t : StdTiming} (hlow : 31 ≤ t.hActive8) (hhigh : t.hActive8 ≤ 286)
    (hrefresh : 60 ≤ t.refresh) (hfield : t.refresh - 60 < 2 ^ w) : stdTimingOf w (stdBytes t) = t := by
  have hpow := two_pow_le_of_refreshWidth hw
  have haspect := t.aspect.isLt
  have hb0 : (t.hActive8 - 31) % 256 + 31 = t.hActive8 := by omega
  have hb1 : (64 * t.aspect.toNat + (t.refresh - 60)) % 256 = 64 * t.aspect.toNat + (t.refresh - 60) := by omega
  have haspectBits : (64 * t.aspect.toNat + (t.refresh - 60)) / 64 = t.aspect.toNat := by omega
  simp [stdTimingOf, hb0, hb1, haspectBits, aspect_add_mod_two_pow hw _ hfield, Nat.sub_add_cancel hrefresh]

/-- R154: with the unused bits of byte 1 zero, the timing keeps every bit of the two bytes. -/
theorem stdBytes_stdTimingOf {b : Bytes 2} (hunused : b[1].toNat % 64 < 2 ^ w) : stdBytes (stdTimingOf w b) = b := by
  have hrefresh : b[1].toNat % 2 ^ w = b[1].toNat % 64 := by
    rw [← Nat.mod_mod_of_dvd _ (two_pow_dvd_of_refreshWidth hw), Nat.mod_eq_of_lt hunused]
  have hb1 : 64 * (b[1].toNat / 64 % 4) + b[1].toNat % 64 = b[1].toNat := by
    have := b[1].isLt
    omega
  refine Vector.ext fun i hi => ?_
  match i with
  | 0 => simp [stdBytes, stdTimingOf]
  | 1 => simp [stdBytes, stdTimingOf, hrefresh, hb1]

/-! ## What the encoder and the decoder do -/

/-- R153: an encodable timing is written as its two bytes, any other is refused. -/
theorem stdEncode_some (t : StdTiming) :
    stdEncode w (some t) = if t.encodable w = true then .ok (stdBytes t).toList else .error .failRange := by
  have hpow := two_pow_le_of_refreshWidth hw
  have hpos := Nat.two_pow_pos w
  simp only [stdEncode, raise_eq]
  split
  next hactive =>
    rw [if_neg fun h => ?_]
    obtain ⟨hlow, hhigh, -⟩ := (stdTiming_encodable_iff w t).1 h
    omega
  next hactive =>
    split
    next hrefresh =>
      rw [if_neg fun h => ?_]
      obtain ⟨-, -, hlow, hhigh, -⟩ := (stdTiming_encodable_iff w t).1 h
      omega
    next hrefresh =>
      have hencodable : t.encodable w = true ↔ ¬ ((stdBytes t)[0] = 0x01 ∧ (stdBytes t)[1] = 0x01) := by
        rw [stdBytes_sentinel_iff (by omega) (by omega) (by omega) (by omega), stdTiming_encodable_iff]
        exact ⟨fun ⟨_, _, _, _, h⟩ => h, fun h => ⟨by omega, by omega, by omega, by omega, h⟩⟩
      rw [stdByte1_eq hw (by omega)]
      simp only [hencodable, ite_not]
      rfl

end

theorem stdDecode_eq (w : Nat) (b : Bytes 2) :
    stdDecode w b = if b[0] = 0x01 ∧ b[1] = 0x01 then none else some (stdTimingOf w b) := by
  rw [stdDecode, field_eq_ofNat, BitVec.extractLsb'_toNat, Nat.shiftRight_zero]
  rfl

/-! ## The laws of R154 -/

section
variable {w : Nat} (hw : w ≤ 6)
include hw

theorem stdDecode_stdBytes {t : StdTiming} (h : t.encodable w = true) : stdDecode w (stdBytes t) = some t := by
  obtain ⟨hlow, hhigh, hrefresh, hfield, hsentinel⟩ := (stdTiming_encodable_iff w t).1 h
  have hpow := two_pow_le_of_refreshWidth hw
  have hpos := Nat.two_pow_pos w
  rw [stdDecode_eq, if_neg (by rwa [stdBytes_sentinel_iff hlow hhigh hrefresh (by omega)]),
    stdTimingOf_stdBytes hw hlow hhigh hrefresh (by omega)]

/-- Two bytes that are not the sentinel hold an encodable timing. -/
theorem stdTimingOf_encodable {b : Bytes 2} (hunused : b[1].toNat % 64 < 2 ^ w)
    (hsentinel : ¬ (b[0] = 0x01 ∧ b[1] = 0x01)) : (stdTimingOf w b).encodable w = true := by
  have hb0 := b[0].isLt
  have hpow := two_pow_le_of_refreshWidth hw
  have hrefresh := Nat.mod_lt b[1].toNat (Nat.two_pow_pos w)
  rw [stdTiming_encodable_iff, ← stdBytes_sentinel_iff, stdBytes_stdTimingOf hw hunused]
  · refine ⟨?_, ?_, ?_, ?_, hsentinel⟩ <;> simp only [stdTimingOf] <;> omega
  all_goals simp only [stdTimingOf]; omega

theorem stdEncode_stdDecode {b : Bytes 2} (hunused : b[1].toNat % 64 < 2 ^ w) :
    stdEncode w (stdDecode w b) = .ok b.toList := by
  rw [stdDecode_eq]
  split
  next hsentinel =>
    have hb : b = #v[0x01, 0x01] := Vector.ext fun i hi => match i with
      | 0 => hsentinel.1
      | 1 => hsentinel.2
    rw [hb]
    rfl
  next hsentinel =>
    rw [stdEncode_some hw, if_pos (stdTimingOf_encodable hw hunused hsentinel), stdBytes_stdTimingOf hw hunused]

theorem exists_bytes_of_stdEncode {o : Option StdTiming} {l : List Byte} (h : stdEncode w o = .ok l) :
    ∃ b : Bytes 2, b.toList = l ∧ stdDecode w b = o := by
  cases o with
  | none =>
    obtain rfl := Except.ok.inj h
    exact ⟨#v[0x01, 0x01], rfl, by simp [stdDecode_eq]⟩
  | some t =>
    rw [stdEncode_some hw] at h
    split at h
    next hencodable =>
      obtain rfl := Except.ok.inj h
      exact ⟨stdBytes t, rfl, stdDecode_stdBytes hw hencodable⟩
    next => cases h

end

/-! ## What the two operations answer -/

theorem answerOf_stdDec (b : Bytes 2) :
    answerOf unitConfig (.stdDec (.bytes b.toList)) = .ok (.std (stdDecode 5 b)) := by
  simp [answerOf, stdDec, bytesOperandOf_toList, RefreshBits.width]

theorem answerOf_stdEnc (o : Option StdTiming) :
    answerOf unitConfig (.stdEnc (.stdIn o)) = (stdEncode 5 o).map .bytes := rfl

/-! ## The statements -/

/-- Settles O18: `stdDecode_eq` at this hardware's width. -/
theorem stdDecReadsTheTiming : Obligations.StdDecReadsTheTiming := by
  refine ⟨fun _ => rfl, refusesOtherKinds_of_operandKind (fun _ => rfl) fun _ => rfl,
    refusesOtherLengths_of_operandLength (fun _ => rfl) (fun _ => rfl) fun _ => rfl, fun b0 b1 s => ?_⟩
  rw [exec_ok_iff]
  exact (answerOf_stdDec #v[b0, b1]).trans (by rw [stdDecode_eq]; rfl)

/-- R151 at this hardware's width: the four bounds a timing can break, and the sentinel's timing. -/
theorem stdTiming_not_encodable_iff (t : StdTiming) :
    ¬ t.encodable 5 = true ↔ t.hActive8 < 31 ∨ 286 < t.hActive8 ∨ t.refresh < 60 ∨ 91 < t.refresh ∨
      (t.hActive8 = 32 ∧ t.aspect = 0 ∧ t.refresh = 61) := by
  rw [stdTiming_encodable_iff, not_and_or, not_and_or, not_and_or, not_and_or, not_not, Nat.not_le, Nat.not_le,
    Nat.not_le, Nat.not_le]
  rfl

/-- Settles O19: `stdEncode_some` at this hardware's width, whose refused timings are `stdTiming_not_encodable_iff`. -/
theorem stdEncWritesTheTimingOrRefuses : Obligations.StdEncWritesTheTimingOrRefuses := by
  refine ⟨fun _ => rfl, refusesOtherKinds_of_operandKind (fun _ => rfl) fun _ => rfl, fun _ => rfl, fun t s => ?_⟩
  rw [exec_eq_respond, answerOf_stdEnc, stdEncode_some (by decide)]
  simp only [← stdTiming_not_encodable_iff, ite_not]
  split <;> rfl

/-- Settles O20: `exists_bytes_of_stdEncode` one way, `stdEncode_stdDecode` the other, and the sentinel by its bytes. -/
theorem standardTimingRoundTrip : Obligations.StandardTimingRoundTrip := by
  intro w hwidth
  have hw : w ≤ 6 := by omega
  exact ⟨fun _ _ => exists_bytes_of_stdEncode hw, fun _ => stdEncode_stdDecode hw, by simp [stdDecode_eq], rfl⟩

end Sys2Proof.Machine
end

section
/-! The CVT code codec (R155 to R159): three bytes and an encodable code determine each other by arithmetic. -/

namespace Sys2Proof.Machine

/-! ## Bytes and code as numbers -/

/-- R158: the bytes of a code; `cvt3Encode_eq` says that the encoder writes these. -/
def cvt3Bytes (c : CvtCode) : Bytes 3 :=
  #v[BitVec.ofNat 8 (c.vActive / 2 - 1),
    BitVec.ofNat 8 (16 * ((c.vActive / 2 - 1) / 256) + 4 * c.aspect.toNat + c.rsvA.toNat),
    BitVec.ofNat 8 (128 * c.rsvB.toNat + 32 * c.prefRate.toNat + c.rates.toNat)]

@[simp] theorem cvt3Bytes_zero_toNat (c : CvtCode) : (cvt3Bytes c)[0].toNat = (c.vActive / 2 - 1) % 256 :=
  BitVec.toNat_ofNat _ _

@[simp] theorem cvt3Bytes_one_toNat (c : CvtCode) :
    (cvt3Bytes c)[1].toNat = (16 * ((c.vActive / 2 - 1) / 256) + 4 * c.aspect.toNat + c.rsvA.toNat) % 256 :=
  BitVec.toNat_ofNat _ _

@[simp] theorem cvt3Bytes_two_toNat (c : CvtCode) :
    (cvt3Bytes c)[2].toNat = (128 * c.rsvB.toNat + 32 * c.prefRate.toNat + c.rates.toNat) % 256 :=
  BitVec.toNat_ofNat _ _

/-- R157: the decoded fields, as numbers. -/
theorem cvt3Decode_eq (b : Bytes 3) :
    cvt3Decode b =
      { vActive := 2 * (b[0].toNat + 256 * (b[1].toNat / 16)) + 2
        aspect := BitVec.ofNat 2 (b[1].toNat / 4)
        rsvA := BitVec.ofNat 2 b[1].toNat
        prefRate := BitVec.ofNat 2 (b[2].toNat / 32)
        rates := BitVec.ofNat 5 b[2].toNat
        rsvB := BitVec.ofNat 1 (b[2].toNat / 128) } := by
  have hlines : (field b[1] 7 4 ++ b[0]).toNat = b[0].toNat + 256 * (b[1].toNat / 16) := by
    have := b[1].isLt
    rw [append_toNat, field_toNat]
    omega
  simp only [cvt3Decode, hlines]
  simp only [field_eq_ofNat, Nat.pow_zero, Nat.div_one]
  rfl

/-- R158: byte 0, the low eight bits of the line number. -/
theorem cvt3Byte0_eq {l : Nat} (hl : l < 4096) : (field (BitVec.ofNat 12 l) 7 0 : Byte) = BitVec.ofNat 8 l := by
  rw [field_eq_ofNat, BitVec.toNat_ofNat, Nat.mod_eq_of_lt hl, Nat.pow_zero, Nat.div_one]

/-- R158: byte 1, the upper four bits of the line number above the aspect and the reserved bits. -/
theorem cvt3Byte1_eq {l : Nat} (hl : l < 4096) (a r : BitVec 2) :
    (field (BitVec.ofNat 12 l) 11 8 ++ a ++ r : Byte) = BitVec.ofNat 8 (16 * (l / 256) + 4 * a.toNat + r.toNat) := by
  have ha := a.isLt
  have hr := r.isLt
  apply BitVec.eq_of_toNat_eq
  rw [append_toNat, append_toNat, field_toNat, BitVec.toNat_ofNat, BitVec.toNat_ofNat]
  omega

/-- R158: byte 2, the parts above each other. -/
theorem cvt3Byte2_eq (b : BitVec 1) (p : BitVec 2) (r : BitVec 5) :
    (b ++ p ++ r : Byte) = BitVec.ofNat 8 (128 * b.toNat + 32 * p.toNat + r.toNat) := by
  have hb := b.isLt
  have hp := p.isLt
  have hr := r.isLt
  apply BitVec.eq_of_toNat_eq
  rw [append_toNat, append_toNat, BitVec.toNat_ofNat]
  omega

/-- R155, R158: the encoder's check is `encodable`. -/
theorem cvt3_not_encodable_iff (c : CvtCode) :
    ¬ c.encodable = true ↔ c.vActive % 2 ≠ 0 ∨ c.vActive < 2 ∨ 8192 < c.vActive := by
  rw [cvtCode_encodable_iff]
  omega

/-- R158: an encodable code is written as its three bytes, any other is refused. -/
theorem cvt3Encode_eq (c : CvtCode) :
    cvt3Encode c = if c.encodable = true then .ok (cvt3Bytes c).toList else .error .failRange := by
  simp only [cvt3Encode, raise_eq, gt_iff_lt, ← cvt3_not_encodable_iff, ite_not]
  split
  next h =>
    have hlines : c.vActive / 2 - 1 < 4096 := by
      have := (cvtCode_encodable_iff c).1 h
      omega
    rw [cvt3Byte0_eq hlines, cvt3Byte1_eq hlines, cvt3Byte2_eq]
    rfl
  next => rfl

/-! ## The laws of R159 -/

theorem cvt3Bytes_cvt3Decode (b : Bytes 3) : cvt3Bytes (cvt3Decode b) = b := by
  have hb0 := b[0].isLt
  have hb1 := b[1].isLt
  have hb2 := b[2].isLt
  refine Vector.ext fun i hi => BitVec.eq_of_toNat_eq ?_
  match i with
  | 0 =>
    simp only [cvt3Bytes_zero_toNat, cvt3Decode_eq]
    omega
  | 1 =>
    simp only [cvt3Bytes_one_toNat, cvt3Decode_eq, BitVec.toNat_ofNat]
    omega
  | 2 =>
    simp only [cvt3Bytes_two_toNat, cvt3Decode_eq, BitVec.toNat_ofNat]
    omega

theorem cvt3Decode_cvt3Bytes {c : CvtCode} (h : c.encodable = true) : cvt3Decode (cvt3Bytes c) = c := by
  obtain ⟨v, a, ra, p, r, rb⟩ := c
  simp only [cvtCode_encodable_iff] at h
  have ha := a.isLt
  have hra := ra.isLt
  have hp := p.isLt
  have hr := r.isLt
  have hrb := rb.isLt
  simp only [cvt3Decode_eq, CvtCode.mk.injEq, ← BitVec.toNat_inj, BitVec.toNat_ofNat, cvt3Bytes_zero_toNat,
    cvt3Bytes_one_toNat, cvt3Bytes_two_toNat]
  omega

/-! ## What the two operations answer -/

theorem exec_cvt3Dec (b : Bytes 3) (s : State) :
    exec (.cvt3Dec (.bytes b.toList)) s = .next (withResponse s .ok (some (.cvt3 (cvt3Decode b)))) := by
  simp [exec_ok_iff, answerOf, cvt3Dec, bytesOperandOf_toList]

theorem exec_cvt3Enc (c : CvtCode) (s : State) :
    exec (.cvt3Enc (.cvt3In c)) s =
      .next
        (if c.encodable = true then withResponse s .ok (some (.bytes (cvt3Bytes c).toList))
        else withResponse s .failRange none) := by
  have hanswer : answerOf unitConfig (.cvt3Enc (.cvt3In c)) = (cvt3Encode c).map .bytes := rfl
  rw [exec_eq_respond, hanswer, cvt3Encode_eq]
  split <;> rfl

/-- Only the bytes of an encodable code are answered with `OK`. -/
theorem exec_cvt3Enc_ok_iff (c : CvtCode) (l : List Byte) (s : State) :
    exec (.cvt3Enc (.cvt3In c)) s = .next (withResponse s .ok (some (.bytes l))) ↔
      c.encodable = true ∧ (cvt3Bytes c).toList = l := by
  rw [exec_cvt3Enc]
  split
  next h => simp [h, withResponse]
  next h => simp [h, withResponse]

/-! ## The statements -/

/-- Settles O21: `cvt3Decode_eq` is the decoded code. -/
theorem cvt3DecReadsTheCode : Obligations.Cvt3DecReadsTheCode := by
  refine ⟨fun _ => rfl, refusesOtherKinds_of_operandKind (fun _ => rfl) fun _ => rfl,
    refusesOtherLengths_of_operandLength (fun _ => rfl) (fun _ => rfl) fun _ => rfl, fun b0 b1 b2 s => ?_⟩
  exact (exec_cvt3Dec #v[b0, b1, b2] s).trans (by rw [cvt3Decode_eq]; rfl)

/-- Settles O22: the bytes are `cvt3Bytes`, the refused codes those of `cvt3_not_encodable_iff`. -/
theorem cvt3EncWritesTheCodeOrRefuses : Obligations.Cvt3EncWritesTheCodeOrRefuses := by
  refine ⟨fun _ => rfl, refusesOtherKinds_of_operandKind (fun _ => rfl) fun _ => rfl, fun c s => ?_⟩
  simp only [← cvt3_not_encodable_iff, ite_not]
  exact exec_cvt3Enc c s

/-- Settles O23: the code of three bytes is encodable and keeps their bits, and an encodable code is read back. -/
theorem cvtCodeRoundTrip : Obligations.CvtCodeRoundTrip := by
  constructor
  · intro l s hlength
    obtain ⟨b, rfl, -⟩ := bytesOperandOf_length 3 l hlength
    refine ⟨cvt3Decode b, exec_cvt3Dec b s, ?_⟩
    rw [exec_cvt3Enc_ok_iff, cvt3Bytes_cvt3Decode]
    exact ⟨cvt3Decode_encodable b, rfl⟩
  · intro c l s hwritten
    obtain ⟨hencodable, rfl⟩ := (exec_cvt3Enc_ok_iff c l s).1 hwritten
    rw [exec_cvt3Dec, cvt3Decode_cvt3Bytes hencodable]

end Sys2Proof.Machine
end

section
/-! Single bits as numbers (R8), and the parts of a concatenation (R10). -/

namespace Sys2Proof.Machine

theorem bit_eq_decide {w : Nat} (v : BitVec w) (i : Nat) : bit v i = decide (v.toNat / 2 ^ i % 2 = 1) :=
  Nat.testBit_eq_decide_div_mod_eq

theorem bit_toNat {w : Nat} (v : BitVec w) (i : Nat) : (bit v i).toNat = v.toNat / 2 ^ i % 2 :=
  Nat.toNat_testBit _ _

theorem flag_toNat (b : Bool) : (flag b).toNat = b.toNat :=
  BitVec.toNat_ofBool b

theorem flag_inj {a b : Bool} : flag a = flag b ↔ a = b :=
  BitVec.ofBool_eq_iff_eq

/-- R10: a concatenation determines its parts. -/
theorem append_inj {m n : Nat} {x x' : BitVec m} {y y' : BitVec n} : x ++ y = x' ++ y' ↔ x = x' ∧ y = y' := by
  refine ⟨fun h => ?_, fun ⟨hx, hy⟩ => by rw [hx, hy]⟩
  have hnumbers := congrArg BitVec.toNat h
  simp only [append_toNat] at hnumbers
  have hhigh := congrArg (· / 2 ^ n) hnumbers
  have hlow := congrArg (· % 2 ^ n) hnumbers
  simp only [Nat.mul_add_div (Nat.two_pow_pos n), Nat.div_eq_of_lt (BitVec.isLt _), Nat.add_zero] at hhigh
  simp only [Nat.mul_add_mod, Nat.mod_eq_of_lt (BitVec.isLt _)] at hlow
  exact ⟨BitVec.eq_of_toNat_eq hhigh, BitVec.eq_of_toNat_eq hlow⟩

end Sys2Proof.Machine
end

section
/-! The Detailed Timing codec (R170 to R173): every field of a record, and every byte of a slot, is a number made of the
other side's numbers, so that the laws of R173 are arithmetic, and a sync is the bits 4 to 1 of byte 17. -/

namespace Sys2Proof.Machine

/-! ## The parts of a record as numbers (R171) -/

theorem append_byte_toNat (x y : Byte) : (x ++ y).toNat = y.toNat + 256 * x.toNat := by
  rw [append_toNat]
  omega

theorem upperNibble_append_toNat (x y : Byte) : (field x 7 4 ++ y).toNat = y.toNat + 256 * (x.toNat / 16) := by
  rw [append_toNat, field_toNat]
  omega

theorem lowerNibble_append_toNat (x y : Byte) : (field x 3 0 ++ y).toNat = y.toNat + 256 * (x.toNat % 16) := by
  rw [append_toNat, field_toNat]
  omega

theorem bits76_append_toNat (x y : Byte) : (field x 7 6 ++ y).toNat = y.toNat + 256 * (x.toNat / 64) := by
  rw [append_toNat, field_toNat]
  omega

theorem bits54_append_toNat (x y : Byte) : (field x 5 4 ++ y).toNat = y.toNat + 256 * (x.toNat / 16 % 4) := by
  rw [append_toNat, field_toNat]
  omega

theorem bits32_append_upperNibble_toNat (x y : Byte) :
    (field x 3 2 ++ field y 7 4).toNat = y.toNat / 16 + 16 * (x.toNat / 4 % 4) := by
  rw [append_toNat, field_toNat, field_toNat]
  omega

theorem bits10_append_lowerNibble_toNat (x y : Byte) :
    (field x 1 0 ++ field y 3 0).toNat = y.toNat % 16 + 16 * (x.toNat % 4) := by
  rw [append_toNat, field_toNat, field_toNat]
  omega

theorem bits65_append_bit0_toNat (x : Byte) :
    (field x 6 5 ++ field x 0 0).toNat = x.toNat % 2 + 2 * (x.toNat / 32 % 4) := by
  rw [append_toNat, field_toNat, field_toNat]
  omega

/-! ## The bytes of a slot as numbers (R172) -/

theorem lowByte_toNat {w : Nat} (x : BitVec w) : (field x 7 0).toNat = x.toNat % 256 := by
  rw [field_toNat]
  omega

theorem highByte_toNat (x : BitVec 16) : (field x 15 8).toNat = x.toNat / 256 := by
  rw [field_toNat]
  omega

theorem topNibbles_toNat (x y : BitVec 12) :
    (field x 11 8 ++ field y 11 8).toNat = 16 * (x.toNat / 256) + y.toNat / 256 := by
  rw [append_toNat, field_toNat, field_toNat]
  omega

theorem lowNibbles_toNat (x y : BitVec 6) :
    (field x 3 0 ++ field y 3 0).toNat = 16 * (x.toNat % 16) + y.toNat % 16 := by
  rw [append_toNat, field_toNat, field_toNat]
  omega

theorem porchTops_toNat (x y : BitVec 10) (z w : BitVec 6) :
    (field x 9 8 ++ field y 9 8 ++ field z 5 4 ++ field w 5 4).toNat =
      64 * (x.toNat / 256) + 16 * (y.toNat / 256) + 4 * (z.toNat / 16) + w.toNat / 16 := by
  simp only [append_toNat, field_toNat]
  omega

theorem flagsByte_toNat (interlaced : Bool) (stereo : BitVec 3) (v : BitVec 4) :
    (flag interlaced ++ field stereo 2 1 ++ v ++ field stereo 0 0).toNat =
      128 * interlaced.toNat + 32 * (stereo.toNat / 2) + 2 * v.toNat + stereo.toNat % 2 := by
  simp only [append_toNat, field_toNat, flag_toNat]
  omega

/-- R172: the bytes of a record, with bits 4 to 1 of byte 17 given. -/
theorem dtdBytes_map_toNat (d : Dtd) (v : BitVec 4) :
    (dtdBytes d v).map BitVec.toNat =
      [ d.pixelClock.toNat % 256, d.pixelClock.toNat / 256,
        d.hActive.toNat % 256, d.hBlank.toNat % 256,
        16 * (d.hActive.toNat / 256) + d.hBlank.toNat / 256,
        d.vActive.toNat % 256, d.vBlank.toNat % 256,
        16 * (d.vActive.toNat / 256) + d.vBlank.toNat / 256,
        d.hFrontPorch.toNat % 256, d.hSyncWidth.toNat % 256,
        16 * (d.vFrontPorch.toNat % 16) + d.vSyncWidth.toNat % 16,
        64 * (d.hFrontPorch.toNat / 256) + 16 * (d.hSyncWidth.toNat / 256) + 4 * (d.vFrontPorch.toNat / 16) +
          d.vSyncWidth.toNat / 16,
        d.hSizeMm.toNat % 256, d.vSizeMm.toNat % 256,
        16 * (d.hSizeMm.toNat / 256) + d.vSizeMm.toNat / 256,
        d.hBorder.toNat, d.vBorder.toNat,
        128 * d.interlaced.toNat + 32 * (d.stereo.toNat / 2) + 2 * v.toNat + d.stereo.toNat % 2 ] := by
  simp only [dtdBytes, List.map_cons, List.map_nil, lowByte_toNat, highByte_toNat, topNibbles_toNat,
    lowNibbles_toNat, porchTops_toNat, flagsByte_toNat]

theorem slot_toList (b : Bytes 18) :
    b.toList = [b[0], b[1], b[2], b[3], b[4], b[5], b[6], b[7], b[8], b[9], b[10], b[11], b[12], b[13], b[14],
      b[15], b[16], b[17]] := by
  refine List.ext_getElem (by simp) fun i hi _ => ?_
  rw [Vector.length_toList] at hi
  interval_cases i <;> rfl

/-! ## Sync (R102) -/

theorem syncDecode_analog {f : Byte} (h : bit f 4 = false) :
    syncDecode f = .analog (bit f 3) (bit f 2) (!(bit f 1)) := if_pos h

theorem syncDecode_composite {f : Byte} (h4 : bit f 4 = true) (h3 : bit f 3 = false) :
    syncDecode f = .digital true (some (bit f 2)) none (bit f 1) := by
  simp [syncDecode, h4, h3]

theorem syncDecode_separate {f : Byte} (h4 : bit f 4 = true) (h3 : bit f 3 = true) :
    syncDecode f = .digital false none (some (bit f 2)) (bit f 1) := by
  simp [syncDecode, h4, h3]

/-- R102, R172: a sync is refused, or written as its bits. -/
theorem syncEncode_cases (y : Sync) :
    (syncBits y = none ∧ syncEncode y = .error .failMalformed) ∨
      ∃ v : BitVec 4, syncEncode y = .ok v ∧ syncBits y = some (2 * v.toNat) := by
  fun_cases syncEncode y with
  | case1 bipolar serrations syncOnGreen =>
    refine .inr ⟨_, rfl, ?_⟩
    simp only [syncBits, append_toNat, flag_toNat, Option.some.injEq, Bool.toNat_false]
    omega
  | case2 serrations hPos =>
    refine .inr ⟨_, rfl, ?_⟩
    simp only [syncBits, append_toNat, flag_toNat, Option.some.injEq, Bool.toNat_false, Bool.toNat_true]
    omega
  | case3 vPos hPos =>
    refine .inr ⟨_, rfl, ?_⟩
    simp only [syncBits, append_toNat, flag_toNat, Option.some.injEq, Bool.toNat_true]
    omega
  | case4 composite serrations vPos hPos hcomposite hseparate =>
    refine .inl ⟨?_, rfl⟩
    simp only [syncBits]

/-- R102: the four bits of byte 17 that hold the sync, one by one. -/
theorem syncField_eq (f : Byte) :
    field f 4 1 = flag (bit f 4) ++ flag (bit f 3) ++ flag (bit f 2) ++ flag (bit f 1) := by
  apply BitVec.eq_of_toNat_eq
  simp only [append_toNat, field_toNat, flag_toNat, bit_toNat]
  omega

theorem syncEncode_syncDecode (f : Byte) : syncEncode (syncDecode f) = .ok (field f 4 1) := by
  rw [syncField_eq]
  cases h4 : bit f 4 with
  | false => rw [syncDecode_analog h4, syncEncode, Bool.not_not]
  | true =>
    cases h3 : bit f 3 with
    | false => rw [syncDecode_composite h4 h3, syncEncode]
    | true => rw [syncDecode_separate h4 h3, syncEncode]

theorem bit_syncField {f : Byte} {b4 b3 b2 b1 : Bool} (h : flag b4 ++ flag b3 ++ flag b2 ++ flag b1 = field f 4 1) :
    bit f 4 = b4 ∧ bit f 3 = b3 ∧ bit f 2 = b2 ∧ bit f 1 = b1 := by
  rw [syncField_eq] at h
  simp only [append_inj, flag_inj] at h
  obtain ⟨⟨⟨h4, h3⟩, h2⟩, h1⟩ := h
  exact ⟨h4.symm, h3.symm, h2.symm, h1.symm⟩

theorem syncDecode_of_syncEncode {y : Sync} {f : Byte} (h : syncEncode y = .ok (field f 4 1)) : syncDecode f = y := by
  revert h
  fun_cases syncEncode y with
  | case1 bipolar serrations syncOnGreen =>
    intro h
    obtain ⟨h4, h3, h2, h1⟩ := bit_syncField (Except.ok.inj h)
    rw [syncDecode_analog h4, h3, h2, h1, Bool.not_not]
  | case2 serrations hPos =>
    intro h
    obtain ⟨h4, h3, h2, h1⟩ := bit_syncField (Except.ok.inj h)
    rw [syncDecode_composite h4 h3, h2, h1]
  | case3 vPos hPos =>
    intro h
    obtain ⟨h4, h3, h2, h1⟩ := bit_syncField (Except.ok.inj h)
    rw [syncDecode_separate h4 h3, h2, h1]
  | case4 => exact nofun

/-! ## What the encoder and the decoder do -/

theorem isTiming_iff (b : Bytes 18) : isTiming b = true ↔ b[0] ≠ 0 ∨ b[1] ≠ 0 := by
  simp [isTiming]

theorem dtdEncode_refused {d : Dtd} (h : d.pixelClock = 0 ∨ syncBits d.sync = none) :
    dtdEncode d = .error .failMalformed := by
  unfold dtdEncode
  split_ifs with hclock
  · rfl
  · obtain ⟨-, hsync⟩ | ⟨v, -, hbits⟩ := syncEncode_cases d.sync
    · rw [hsync]
      rfl
    · exact absurd (h.resolve_right (by simp [hbits])) hclock

theorem dtdEncode_ok_iff (d : Dtd) (l : List Byte) :
    dtdEncode d = .ok l ↔ d.pixelClock ≠ 0 ∧ ∃ v, syncEncode d.sync = .ok v ∧ dtdBytes d v = l := by
  unfold dtdEncode
  split_ifs with hclock
  · simp [hclock]
  · cases syncEncode d.sync with
    | error e => simp
    | ok v => simpa using fun _ => hclock

/-! ## The laws of R173 -/

/-- R10: the low byte of a field is the byte it was read from, and the quotient is the part above it. -/
theorem byte_add_mod (x : Byte) (n : Nat) : (x.toNat + 256 * n) % 256 = x.toNat := by
  rw [Nat.add_mul_mod_self_left, Nat.mod_eq_of_lt x.isLt]

theorem byte_add_div (x : Byte) (n : Nat) : (x.toNat + 256 * n) / 256 = n := by
  rw [Nat.add_mul_div_left _ _ (by decide), Nat.div_eq_of_lt x.isLt, Nat.zero_add]

/-- R101: byte 11 holds four two-bit parts. -/
theorem byte11_parts {x p q r t : Nat} (hx : 64 * p + 16 * q + 4 * r + t = x) (hq : q < 4) (hr : r < 4) (ht : t < 4) :
    x / 64 = p ∧ x / 16 % 4 = q ∧ x / 4 % 4 = r ∧ x % 4 = t := by
  omega

/-- R101: byte 17 holds the interlaced flag, the upper stereo bits, the sync and the lowest stereo bit. -/
theorem byte17_parts {x i p v t : Nat} (hx : 128 * i + 32 * p + 2 * v + t = x) (hp : p < 4) (hv : v < 16)
    (ht : t < 2) : x / 128 = i ∧ x / 32 % 4 = p ∧ x / 2 % 16 = v ∧ x % 2 = t := by
  omega

/-- R173: the bytes of the fields read from a slot are the slot's bytes. -/
theorem dtdBytes_dtdDecode (b : Bytes 18) : dtdBytes (dtdDecode b) (field b[17] 4 1) = b.toList := by
  apply List.map_injective_iff.2 fun _ _ => BitVec.eq_of_toNat_eq
  simp only [dtdBytes_map_toNat, slot_toList, dtdDecode, List.map_cons, List.map_nil, List.cons.injEq, and_true,
    true_and, append_byte_toNat, upperNibble_append_toNat, lowerNibble_append_toNat, bits76_append_toNat,
    bits54_append_toNat, bits32_append_upperNibble_toNat, bits10_append_lowerNibble_toNat, bits65_append_bit0_toNat,
    bit_toNat, field_toNat, byte_add_mod, byte_add_div]
  omega

/-- R173: a slot that holds the bytes of a record reads as that record. -/
theorem dtdDecode_of_dtdBytes {b : Bytes 18} {d : Dtd} {v : BitVec 4} (hbytes : dtdBytes d v = b.toList)
    (hsync : syncEncode d.sync = .ok v) : dtdDecode b = d := by
  obtain ⟨clock, hActive, hBlank, vActive, vBlank, hFront, hSync, vFront, vSync, hSize, vSize, hBorder, vBorder,
    interlaced, stereo, sync⟩ := d
  have hnumbers := congrArg (List.map BitVec.toNat) hbytes
  simp only [dtdBytes_map_toNat, slot_toList, List.map_cons, List.map_nil, List.cons.injEq, and_true] at hnumbers
  obtain ⟨hfrontTop, hsyncTop, hvFrontTop, hvSyncTop⟩ :
      b[11].toNat / 64 = hFront.toNat / 256 ∧ b[11].toNat / 16 % 4 = hSync.toNat / 256 ∧
      b[11].toNat / 4 % 4 = vFront.toNat / 16 ∧ b[11].toNat % 4 = vSync.toNat / 16 :=
    byte11_parts (by omega) (by omega) (by omega) (by omega)
  obtain ⟨hinterlaced, hstereoTop, hsyncBits, hstereoLow⟩ :
      b[17].toNat / 128 = interlaced.toNat ∧ b[17].toNat / 32 % 4 = stereo.toNat / 2 ∧
      b[17].toNat / 2 % 16 = v.toNat ∧ b[17].toNat % 2 = stereo.toNat % 2 :=
    byte17_parts (by omega) (by omega) (by omega) (by omega)
  have hsyncField : field b[17] 4 1 = v := BitVec.eq_of_toNat_eq ((field_toNat _ _ _).trans hsyncBits)
  rw [← hsyncField] at hsync
  simp only [dtdDecode, Dtd.mk.injEq, syncDecode_of_syncEncode hsync, and_true, ← flag_inj, ← BitVec.toNat_inj,
    append_byte_toNat, upperNibble_append_toNat, lowerNibble_append_toNat, bits76_append_toNat, bits54_append_toNat,
    bits32_append_upperNibble_toNat, bits10_append_lowerNibble_toNat, bits65_append_bit0_toNat, flag_toNat, bit_toNat]
  omega

/-- R173: what a timing slot decodes to is accepted, and encodes to the slot. -/
theorem dtdEncode_dtdDecode {b : Bytes 18} (h : isTiming b = true) : dtdEncode (dtdDecode b) = .ok b.toList := by
  obtain ⟨hclock, -⟩ : (dtdDecode b).pixelClock ≠ 0 ∧ _ := by
    simpa [Dtd.encodable] using dtdDecode_encodable h
  exact (dtdEncode_ok_iff _ _).2 ⟨hclock, _, syncEncode_syncDecode b[17], dtdBytes_dtdDecode b⟩

/-- R172, R173: what the encoder writes is a slot that is a timing and reads as the record. -/
theorem exists_slot_of_dtdEncode {d : Dtd} {l : List Byte} (h : dtdEncode d = .ok l) :
    ∃ b : Bytes 18, b.toList = l ∧ isTiming b = true ∧ dtdDecode b = d := by
  obtain ⟨hclock, v, hsync, rfl⟩ := (dtdEncode_ok_iff d l).1 h
  obtain ⟨b, hb, -⟩ := bytesOperandOf_length 18 (dtdBytes d v) rfl
  have hd := dtdDecode_of_dtdBytes hb.symm hsync
  refine ⟨b, hb, (isTiming_iff b).2 ?_, hd⟩
  by_contra hzero
  obtain ⟨h0, h1⟩ := not_or.1 hzero
  apply hclock
  rw [← hd, dtdDecode, not_not.1 h0, not_not.1 h1]
  rfl

/-! ## What the two operations answer -/

theorem answerOf_dtdDec (b : Bytes 18) :
    answerOf unitConfig (.dtdDec (.bytes b.toList)) =
      if isTiming b = true then .ok (.dtd (dtdDecode b)) else .error .notThisType := by
  simp [answerOf, dtdDec, bytesOperandOf_toList]

theorem exec_dtdDec_timing {b : Bytes 18} (h : isTiming b = true) (s : State) :
    exec (.dtdDec (.bytes b.toList)) s = .next (withResponse s .ok (some (.dtd (dtdDecode b)))) := by
  rw [exec_ok_iff, answerOf_dtdDec, if_pos h]

theorem exec_dtdDec_other {b : Bytes 18} (h : ¬ isTiming b = true) (s : State) :
    exec (.dtdDec (.bytes b.toList)) s = .next (withResponse s .notThisType none) := by
  rw [exec_eq_respond, answerOf_dtdDec, if_neg h, respond_error]

theorem answerOf_dtdEnc (d : Dtd) : answerOf unitConfig (.dtdEnc (.dtdIn d)) = (dtdEncode d).map .bytes := rfl

theorem exec_dtdEnc_ok_iff (d : Dtd) (l : List Byte) (s : State) :
    exec (.dtdEnc (.dtdIn d)) s = .next (withResponse s .ok (some (.bytes l))) ↔ dtdEncode d = .ok l := by
  rw [exec_ok_iff, answerOf_dtdEnc]
  cases dtdEncode d <;> simp [Except.map]

theorem exec_dtdEnc_refused {d : Dtd} (h : d.pixelClock = 0 ∨ syncBits d.sync = none) (s : State) :
    exec (.dtdEnc (.dtdIn d)) s = .next (withResponse s .failMalformed none) := by
  rw [exec_eq_respond, answerOf_dtdEnc, dtdEncode_refused h]
  rfl

/-! ## The statements -/

/-- Settles O26: `dtdEncode_dtdDecode` is the one law, `exists_slot_of_dtdEncode` the other. -/
theorem detailedTimingRoundTrip : Obligations.DetailedTimingRoundTrip := by
  constructor
  · intro b s hclock
    have htiming := (isTiming_iff b).2 hclock
    exact ⟨dtdDecode b, exec_dtdDec_timing htiming s, (exec_dtdEnc_ok_iff _ _ s).2 (dtdEncode_dtdDecode htiming)⟩
  · intro d l s hwritten
    obtain ⟨b, rfl, htiming, rfl⟩ := exists_slot_of_dtdEncode ((exec_dtdEnc_ok_iff d l s).1 hwritten)
    exact exec_dtdDec_timing htiming s

/-- Settles O24: the record is `dtdDecode b`, whose fields are the parts above; byte 17 chooses the sync. -/
theorem dtdDecReadsEveryField : Obligations.DtdDecReadsEveryField := by
  refine ⟨fun _ => rfl, refusesOtherKinds_of_operandKind (fun _ => rfl) fun _ => rfl,
    refusesOtherLengths_of_operandLength (fun _ => rfl) (fun _ => rfl) fun _ => rfl, fun b s => ⟨?_, ?_⟩⟩
  · rintro ⟨h0, h1⟩
    exact exec_dtdDec_other (by simp [isTiming_iff, h0, h1]) s
  · intro hclock
    refine ⟨dtdDecode b, exec_dtdDec_timing ((isTiming_iff b).2 hclock) s, append_byte_toNat _ _,
      upperNibble_append_toNat _ _, lowerNibble_append_toNat _ _, upperNibble_append_toNat _ _,
      lowerNibble_append_toNat _ _, bits76_append_toNat _ _, bits54_append_toNat _ _,
      bits32_append_upperNibble_toNat _ _, bits10_append_lowerNibble_toNat _ _, upperNibble_append_toNat _ _,
      lowerNibble_append_toNat _ _, rfl, rfl, ?_, bits65_append_bit0_toNat _, ?_, ?_, ?_⟩
    · rw [dtdDecode, bit_eq_decide, decide_eq_true_iff]
      omega
    · intro hanalog
      exact syncDecode_analog (by rw [bit_eq_decide, decide_eq_false_iff_not]; omega)
    · intro hcomposite
      exact syncDecode_composite (by rw [bit_eq_decide, decide_eq_true_iff]; omega)
        (by rw [bit_eq_decide, decide_eq_false_iff_not]; omega)
    · intro hseparate
      exact syncDecode_separate (by rw [bit_eq_decide, decide_eq_true_iff]; omega)
        (by rw [bit_eq_decide, decide_eq_true_iff]; omega)

/-- Settles O25: the refused records are those of `dtdEncode_refused`, the bytes those of `dtdBytes_map_toNat`. -/
theorem dtdEncWritesEveryByteOrRefuses : Obligations.DtdEncWritesEveryByteOrRefuses := by
  refine ⟨fun _ => rfl, refusesOtherKinds_of_operandKind (fun _ => rfl) fun _ => rfl,
    fun d s => ⟨fun hrefused => exec_dtdEnc_refused hrefused s, fun sb hclock hbits => ?_⟩⟩
  obtain ⟨hnone, -⟩ | ⟨v, hsync, hv⟩ := syncEncode_cases d.sync
  · rw [hnone] at hbits
    cases hbits
  · obtain rfl : 2 * v.toNat = sb := Option.some.inj (hv.symm.trans hbits)
    exact ⟨dtdBytes d v, (exec_dtdEnc_ok_iff d _ s).2 ((dtdEncode_ok_iff d _).2 ⟨hclock, v, hsync, rfl⟩),
      dtdBytes_map_toNat d v⟩

end Sys2Proof.Machine
end


section
/-! The shape of the slot operations (R190, R211, R212): a decoder or an encoder run on the operand, so that a claim
about the operation is a claim about that function. -/

namespace Sys2Proof.Machine

/-- R190, R211: `instr` reads an 18-byte slot and answers what `decoder` gives for it. -/
def RunsDecoder (instr : Operand → Instr) (decoder : Bytes 18 → Except Status Descriptor) : Prop :=
  ∀ o, answerOf unitConfig (instr o) = regDec decoder o

/-- R190, R212: `instr` reads a descriptor and answers what `encoder` gives for it. -/
def RunsEncoder (instr : Operand → Instr) (encoder : Descriptor → Except Status (List Byte)) : Prop :=
  ∀ o, answerOf unitConfig (instr o) = regEnc encoder o

theorem slotDec_runsDecoder : RunsDecoder .slotDec fun b => .ok (slotDecode b) := fun _ => rfl

theorem slotEnc_runsEncoder : RunsEncoder .slotEnc slotEncode := fun _ => rfl

section
variable {instr : Operand → Instr} {decoder : Bytes 18 → Except Status Descriptor}

theorem RunsDecoder.answerOf_toList (h : RunsDecoder instr decoder) (b : Bytes 18) :
    answerOf unitConfig (instr (.bytes b.toList)) = (decoder b).map .desc := by
  simp [h _, regDec, bytesOperandOf_toList]

theorem RunsDecoder.decodes_iff (h : RunsDecoder instr decoder) (b : Bytes 18) (d : Descriptor) :
    decodesTo instr b.toList d ↔ decoder b = .ok d := by
  rw [decodesTo_iff, h.answerOf_toList]
  cases decoder b <;> simp [Except.map]

theorem RunsDecoder.ends_iff (h : RunsDecoder instr decoder) (b : Bytes 18) (e : Status) :
    endsWith instr (.bytes b.toList) e ↔ decoder b = .error e := by
  rw [endsWith_iff, h.answerOf_toList]
  cases decoder b <;> simp [Except.map]

/-- R83: only 18 bytes are read as a descriptor. -/
theorem RunsDecoder.exists_of_decodesTo (h : RunsDecoder instr decoder) {l : List Byte} {d : Descriptor}
    (hread : decodesTo instr l d) : ∃ b : Bytes 18, b.toList = l ∧ decoder b = .ok d := by
  by_cases hlength : l.length = 18
  · obtain ⟨b, rfl, -⟩ := bytesOperandOf_length 18 l hlength
    exact ⟨b, rfl, (h.decodes_iff b d).1 hread⟩
  · simp [decodesTo_iff, h _, regDec, bytesOperandOf_otherLength 18 l hlength] at hread

end

section
variable {instr : Operand → Instr} {encoder : Descriptor → Except Status (List Byte)}

theorem RunsEncoder.answerOf_descIn (h : RunsEncoder instr encoder) (d : Descriptor) :
    answerOf unitConfig (instr (.descIn d)) = (encoder d).map .bytes := h _

theorem RunsEncoder.encodes_iff (h : RunsEncoder instr encoder) (d : Descriptor) (l : List Byte) :
    encodesTo instr d l ↔ encoder d = .ok l := by
  rw [encodesTo_iff, h.answerOf_descIn]
  cases encoder d <;> simp [Except.map]

theorem RunsEncoder.ends_iff (h : RunsEncoder instr encoder) (d : Descriptor) (e : Status) :
    endsWith instr (.descIn d) e ↔ encoder d = .error e := by
  rw [endsWith_iff, h.answerOf_descIn]
  cases encoder d <;> simp [Except.map]

end

/-- The bytes an encoder writes are those of a slot. -/
theorem exists_slot_of_endsWell {x : Except Status (List Byte)} (hx : EndsWell (fun l => l.length = 18) x)
    {l : List Byte} (h : x = .ok l) : ∃ b : Bytes 18, b.toList = l := by
  have hlength : EndsWell (fun l : List Byte => l.length = 18) (.ok l) := h ▸ hx
  obtain ⟨b, hb, -⟩ := bytesOperandOf_length 18 l hlength
  exact ⟨b, hb⟩

/-- R208 for one pair of operations, from the law of the two functions they run. -/
theorem registryPairInverse_of_iff {dec enc : Operand → Instr} {decoder : Bytes 18 → Except Status Descriptor}
    {encoder : Descriptor → Except Status (List Byte)} (hdec : RunsDecoder dec decoder)
    (henc : RunsEncoder enc encoder) (hslots : ∀ d, EndsWell (fun l => l.length = 18) (encoder d))
    (hinverse : ∀ b d, decoder b = .ok d ↔ encoder d = .ok b.toList) : registryPairInverse dec enc := by
  constructor
  · intro l d hread
    obtain ⟨b, rfl, hb⟩ := hdec.exists_of_decodesTo hread
    exact (henc.encodes_iff d _).2 ((hinverse b d).1 hb)
  · intro d l hwritten
    have hl := (henc.encodes_iff d l).1 hwritten
    obtain ⟨b, rfl⟩ := exists_slot_of_endsWell (hslots d) hl
    exact (hdec.decodes_iff b d).2 ((hinverse b d).2 hl)

end Sys2Proof.Machine
end

section
/-! The header, the Dummy and the string variants (R191 to R201): what a decoder reads and what its encoder writes are
one relation between a slot and a descriptor. -/

namespace Sys2Proof.Machine

/-! ## The header (R191) and the Dummy (R193, R194) -/

theorem header_iff (b : Bytes 18) (tag : Byte) (byte4Zero : Bool) :
    header b tag byte4Zero = true ↔
      b[0] = 0 ∧ b[1] = 0 ∧ b[2] = 0 ∧ b[3] = tag ∧ (byte4Zero = true → b[4] = 0) := by
  cases byte4Zero <;> simp [header, and_assoc]

/-- R105: a slot is its first five bytes and its payload. -/
theorem toList_eq_append_payload (b : Bytes 18) : b.toList = [b[0], b[1], b[2], b[3], b[4]] ++ payload b := by
  simp [payload, slot_toList]

/-- R191: with byte 4 zero, the header and the payload are the whole slot. -/
theorem toList_eq_header_append_iff (b : Bytes 18) (tag : Byte) (p : List Byte) :
    b.toList = [0x00, 0x00, 0x00, tag, 0x00] ++ p ↔ header b tag true = true ∧ payload b = p := by
  rw [toList_eq_append_payload, header_iff]
  simp [and_assoc]

theorem dummyDecode_ok_iff (b : Bytes 18) (d : Descriptor) :
    dummyDecode b = .ok d ↔ d = .dummy ∧ b.toList = [0x00, 0x00, 0x00, 0x10] ++ List.replicate 14 0x00 := by
  have hzeros : (payload b).all (· == 0) = true ↔ payload b = List.replicate 13 0 := by
    simp only [List.eq_replicate_iff, payload_length, List.all_eq_true, beq_iff_eq, true_and]
  have hslot := toList_eq_header_append_iff b 0x10 (List.replicate 13 0)
  rw [← hzeros] at hslot
  refine Iff.trans ?_ (and_congr_right' hslot.symm)
  unfold dummyDecode
  split_ifs with hheader hpayload
  · simp only [Except.ok.injEq, hheader, hpayload, and_true, eq_comm]
  · simp only [raise_eq, reduceCtorEq, hpayload, and_false]
  · simp only [raise_eq, reduceCtorEq, hheader, and_false, false_and]

theorem dummyEncode_ok_iff (d : Descriptor) (l : List Byte) :
    dummyEncode d = .ok l ↔ d = .dummy ∧ l = [0x00, 0x00, 0x00, 0x10] ++ List.replicate 14 0x00 := by
  cases d with
  | dummy => simp [dummyEncode, eq_comm]
  | _ => simp [dummyEncode]

theorem dummyEncode_other {d : Descriptor} (h : d ≠ .dummy) : dummyEncode d = .error .doesNotApply := by
  cases d with
  | dummy => exact absurd rfl h
  | _ => rfl

/-! ## Payloads of strings (R108, R192) -/

/-- R108: the 13 payload bytes `p` hold the string `c`. -/
def IsStringPayload (c p : List Byte) : Prop :=
  0x0A ∉ c ∧
    ((c.length = 13 ∧ p = c) ∨ (c.length ≤ 12 ∧ p = c ++ [0x0A] ++ List.replicate (12 - c.length) 0x20))

theorem isStringSlot_iff (tag : Byte) (c l : List Byte) :
    IsStringSlot tag c l ↔ ∃ p, IsStringPayload c p ∧ l = [0x00, 0x00, 0x00, tag, 0x00] ++ p := by
  simp only [IsStringSlot, IsStringPayload]
  constructor
  · rintro ⟨hc, ⟨hlength, rfl⟩ | ⟨hlength, rfl⟩⟩
    · exact ⟨_, ⟨hc, .inl ⟨hlength, rfl⟩⟩, rfl⟩
    · exact ⟨_, ⟨hc, .inr ⟨hlength, rfl⟩⟩, by simp only [List.append_assoc]⟩
  · rintro ⟨p, ⟨hc, ⟨hlength, rfl⟩ | ⟨hlength, rfl⟩⟩, rfl⟩
    · exact ⟨hc, .inl ⟨hlength, rfl⟩⟩
    · exact ⟨hc, .inr ⟨hlength, by simp only [List.append_assoc]⟩⟩

theorem strDec_of_notMem {p : List Byte} (h : 0x0A ∉ p) : strDec p = some p := by
  have hnone : p.dropWhile (· != 0x0A) = [] := List.dropWhile_eq_nil_iff.2 fun x hx => by
    simpa using ne_of_mem_of_not_mem hx h
  simp only [strDec, hnone]

theorem strDec_append_lineFeed {c : List Byte} (h : 0x0A ∉ c) (padding : List Byte) :
    strDec (c ++ 0x0A :: padding) = if padding.all (· == 0x20) then some c else none := by
  have hkept : ∀ x ∈ c, (x != 0x0A) = true := fun x hx => by simpa using ne_of_mem_of_not_mem hx h
  have hcut : (c ++ 0x0A :: padding).dropWhile (· != 0x0A) = 0x0A :: padding := List.dropWhile_append_of_pos hkept
  have hcontent : (c ++ 0x0A :: padding).takeWhile (· != 0x0A) = c := by
    rw [List.takeWhile_append_of_pos hkept, List.takeWhile_cons_of_neg (by simp), List.append_nil]
  simp only [strDec, hcut, hcontent]

theorem strDec_eq_some_iff {p : List Byte} (hp : p.length = 13) (c : List Byte) :
    strDec p = some c ↔ IsStringPayload c p := by
  constructor
  · intro hread
    by_cases hmem : 0x0A ∈ p
    · obtain ⟨content, padding, rfl, hcontent⟩ := List.eq_append_cons_of_mem hmem
      rw [strDec_append_lineFeed hcontent] at hread
      split_ifs at hread with hspaces
      obtain rfl := Option.some.inj hread
      rw [List.length_append, List.length_cons] at hp
      have hpadding : padding = List.replicate (12 - content.length) 0x20 :=
        List.eq_replicate_iff.2 ⟨by omega, by simpa using hspaces⟩
      exact ⟨hcontent, .inr ⟨by omega, by rw [List.append_assoc, ← hpadding]; rfl⟩⟩
    · obtain rfl := Option.some.inj ((strDec_of_notMem hmem).symm.trans hread)
      exact ⟨hmem, .inl ⟨hp, rfl⟩⟩
  · rintro ⟨hc, ⟨-, rfl⟩ | ⟨-, rfl⟩⟩
    · exact strDec_of_notMem hc
    · rw [List.append_assoc, List.singleton_append, strDec_append_lineFeed hc]
      simp

theorem strEnc_refused {c : List Byte} (h : 13 < c.length ∨ 0x0A ∈ c) : strEnc c = .error .failMalformed :=
  if_pos h

theorem strEnc_ok_iff (c p : List Byte) : strEnc c = .ok p ↔ IsStringPayload c p := by
  unfold strEnc IsStringPayload
  split_ifs with hbad hfull
  · simp only [raise_eq, reduceCtorEq, false_iff]
    rintro ⟨hc, ⟨hlength, -⟩ | ⟨hlength, -⟩⟩
    all_goals
      have := hbad.resolve_right hc
      omega
  · obtain ⟨-, hc⟩ := not_or.1 hbad
    simp only [Except.ok.injEq, hc, hfull, not_false_eq_true, true_and, Nat.reduceLeDiff, false_and, or_false, eq_comm]
  · obtain ⟨hlength, hc⟩ := not_or.1 hbad
    have hshort : c.length ≤ 12 := by omega
    simp only [Except.ok.injEq, hc, hfull, hshort, not_false_eq_true, true_and, false_and, false_or, eq_comm]

/-! ## The three string variants at once (R195) -/

theorem stringDecode_ok_iff (tag : Byte) (variant : List Byte → Descriptor) (b : Bytes 18) (d : Descriptor) :
    stringDecode tag variant b = .ok d ↔ ∃ c, d = variant c ∧ IsStringSlot tag c b.toList := by
  have hslot (c : List Byte) :
      IsStringSlot tag c b.toList ↔ header b tag true = true ∧ strDec (payload b) = some c := by
    simp only [isStringSlot_iff, toList_eq_header_append_iff, strDec_eq_some_iff (payload_length b)]
    constructor
    · rintro ⟨p, hpayload, hheader, rfl⟩
      exact ⟨hheader, hpayload⟩
    · rintro ⟨hheader, hpayload⟩
      exact ⟨payload b, hpayload, hheader, rfl⟩
  simp only [hslot, stringDecode]
  split_ifs with hheader
  · cases strDec (payload b) <;> simp [hheader, eq_comm]
  · simp [hheader]

theorem stringEncode_ok_iff (tag : Byte) (c l : List Byte) : stringEncode tag c = .ok l ↔ IsStringSlot tag c l := by
  simp only [isStringSlot_iff, ← strEnc_ok_iff, stringEncode]
  cases strEnc c <;> simp [eq_comm]

theorem stringEncode_refused (tag : Byte) {c : List Byte} (h : 13 < c.length ∨ 0x0A ∈ c) :
    stringEncode tag c = .error .failMalformed := by
  simp [stringEncode, strEnc_refused h]

theorem exists_stringEncode (tag : Byte) {c : List Byte} (hlength : c.length ≤ 13) (hc : 0x0A ∉ c) :
    ∃ l, stringEncode tag c = .ok l := by
  unfold stringEncode strEnc
  rw [if_neg (not_or.2 ⟨by omega, hc⟩)]
  split_ifs <;> exact ⟨_, rfl⟩

/-- R195, R197: `encoder` writes the strings of one variant and no other descriptor. -/
structure EncodesStrings (tag : Byte) (variant : List Byte → Descriptor)
    (encoder : Descriptor → Except Status (List Byte)) : Prop where
  own : ∀ c, encoder (variant c) = stringEncode tag c
  other : ∀ d, (∀ c, d ≠ variant c) → encoder d = .error .doesNotApply

theorem serialEncode_encodesStrings : EncodesStrings 0xFF .serialNumber serialEncode where
  own _ := rfl
  other d h := by
    cases d with
    | serialNumber c => exact absurd rfl (h c)
    | _ => rfl

theorem alnumEncode_encodesStrings : EncodesStrings 0xFE .alphanumericString alnumEncode where
  own _ := rfl
  other d h := by
    cases d with
    | alphanumericString c => exact absurd rfl (h c)
    | _ => rfl

theorem nameEncode_encodesStrings : EncodesStrings 0xFC .productName nameEncode where
  own _ := rfl
  other d h := by
    cases d with
    | productName c => exact absurd rfl (h c)
    | _ => rfl

section
variable {tag : Byte} {variant : List Byte → Descriptor} {encoder : Descriptor → Except Status (List Byte)}

theorem EncodesStrings.ok_iff (h : EncodesStrings tag variant encoder) (d : Descriptor) (l : List Byte) :
    encoder d = .ok l ↔ ∃ c, d = variant c ∧ IsStringSlot tag c l := by
  constructor
  · intro hwritten
    by_cases hd : ∃ c, d = variant c
    · obtain ⟨c, rfl⟩ := hd
      exact ⟨c, rfl, (stringEncode_ok_iff tag c l).1 (h.own c ▸ hwritten)⟩
    · rw [h.other d (not_exists.1 hd)] at hwritten
      cases hwritten
  · rintro ⟨c, rfl, hslot⟩
    rw [h.own, stringEncode_ok_iff]
    exact hslot

/-- R208 for the string variants: both sides say that the slot is the string's. -/
theorem EncodesStrings.decode_iff_encode (h : EncodesStrings tag variant encoder) (b : Bytes 18) (d : Descriptor) :
    stringDecode tag variant b = .ok d ↔ encoder d = .ok b.toList := by
  rw [stringDecode_ok_iff, h.ok_iff]

theorem EncodesStrings.encoderMeets (h : EncodesStrings tag variant encoder) {instr : Operand → Instr}
    (henc : RunsEncoder instr encoder) : stringEncoderMeets tag variant instr := by
  refine ⟨fun c hlength hc => ?_, fun c hbad => ?_, fun d hd => ?_⟩
  · obtain ⟨l, hl⟩ := exists_stringEncode tag hlength hc
    exact ⟨l, (stringEncode_ok_iff tag c l).1 hl, (henc.encodes_iff _ l).2 ((h.own c).trans hl)⟩
  · exact (henc.ends_iff _ _).2 ((h.own c).trans (stringEncode_refused tag hbad))
  · exact (henc.ends_iff d _).2 (h.other d hd)

end

theorem stringDecode_ok_or_notThisType (tag : Byte) (variant : List Byte → Descriptor) (b : Bytes 18) :
    (∃ d, stringDecode tag variant b = .ok d) ∨ stringDecode tag variant b = .error .notThisType := by
  unfold stringDecode
  split_ifs
  · cases strDec (payload b) <;> simp
  · exact .inr rfl

theorem stringDecoderMeets_of_runs {tag : Byte} {variant : List Byte → Descriptor} {instr : Operand → Instr}
    (hdec : RunsDecoder instr (stringDecode tag variant)) : stringDecoderMeets tag variant instr := by
  constructor
  · intro c l hslot
    obtain ⟨b, rfl⟩ := exists_slot_of_endsWell (stringEncode_endsWell tag c) ((stringEncode_ok_iff tag c l).2 hslot)
    exact (hdec.decodes_iff b _).2 ((stringDecode_ok_iff tag variant b _).2 ⟨c, rfl, hslot⟩)
  · intro l hlength hnone
    obtain ⟨b, rfl, -⟩ := bytesOperandOf_length 18 l hlength
    refine (hdec.ends_iff b _).2 ((stringDecode_ok_or_notThisType tag variant b).resolve_left ?_)
    rintro ⟨d, hd⟩
    obtain ⟨c, -, hslot⟩ := (stringDecode_ok_iff tag variant b d).1 hd
    exact hnone c hslot

end Sys2Proof.Machine
end

section
/-! The display range limits (R202 to R204): a slot and a record have the same bits, in the order R110 to R115 give
them, so that each law of R208 comes down to the parts of a few bytes. -/

namespace Sys2Proof.Machine

/-! ## Bytes and fields cut into their parts (R8, R10) -/

theorem byte_eq_bits74_flags (x : Byte) :
    x = field x 7 4 ++ flag (bit x 3) ++ flag (bit x 2) ++ flag (bit x 1) ++ flag (bit x 0) := by
  apply BitVec.eq_of_toNat_eq
  simp only [append_toNat, field_toNat, flag_toNat, bit_toNat]
  omega

theorem byte_eq_bits72_bits10 (x : Byte) : x = field x 7 2 ++ field x 1 0 := by
  apply BitVec.eq_of_toNat_eq
  simp only [append_toNat, field_toNat]
  omega

theorem byte_eq_bits73_bits20 (x : Byte) : x = field x 7 3 ++ field x 2 0 := by
  apply BitVec.eq_of_toNat_eq
  simp only [append_toNat, field_toNat]
  omega

theorem byte_eq_bits74_bits30 (x : Byte) : x = field x 7 4 ++ field x 3 0 := by
  apply BitVec.eq_of_toNat_eq
  simp only [append_toNat, field_toNat]
  omega

theorem byte_eq_bits75_flags_bits20 (x : Byte) :
    x = field x 7 5 ++ flag (bit x 4) ++ flag (bit x 3) ++ field x 2 0 := by
  apply BitVec.eq_of_toNat_eq
  simp only [append_toNat, field_toNat, flag_toNat, bit_toNat]
  omega

theorem tenBits_eq_bits98_byte (x : BitVec 10) : x = field x 9 8 ++ field x 7 0 := by
  apply BitVec.eq_of_toNat_eq
  simp only [append_toNat, field_toNat]
  omega

theorem twoBytes_eq_byte_byte (x : BitVec 16) : x = field x 15 8 ++ field x 7 0 := by
  apply BitVec.eq_of_toNat_eq
  simp only [append_toNat, field_toNat]
  omega

/-- R115: the maximum active width as the two parts that bytes 12 and 13 hold. -/
theorem tenBits_eq_append_iff (x : BitVec 10) (y : BitVec 2) (z : Byte) :
    x = y ++ z ↔ field x 9 8 = y ∧ field x 7 0 = z := by
  rw [← append_inj, ← tenBits_eq_bits98_byte]

/-- R114: `M` as the two bytes that hold it, the low byte first. -/
theorem twoBytes_eq_append_iff (x : BitVec 16) (y z : Byte) :
    x = y ++ z ↔ field x 15 8 = y ∧ field x 7 0 = z := by
  rw [← append_inj, ← twoBytes_eq_byte_byte]

/-! ## The nested timing (R112 to R115) -/

/-- R114: the record in bytes 11 to 17 of a slot with selector 0x02. -/
def secondaryGtfOf (b : Bytes 18) : SecondaryGtf :=
  { rsv := b[11], hBreak2 := b[12], c2 := b[13], m := b[15] ++ b[14], k := b[16], j2 := b[17] }

/-- R115: the record in bytes 11 to 17 of a slot with selector 0x04. -/
def cvtSupportOf (b : Bytes 18) : CvtSupport :=
  { version := b[11]
    pclkOffset := field b[12] 7 2
    maxActive8 := field b[12] 1 0 ++ b[13]
    aspects := field b[14] 7 3
    aspectsRsv := field b[14] 2 0
    prefAspect := field b[15] 7 5
    rbSupported := bit b[15] 4
    stdSupported := bit b[15] 3
    blankRsv := field b[15] 2 0
    scaling := field b[16] 7 4
    scalingRsv := field b[16] 3 0
    prefVRate := b[17] }

theorem drlTimingDecode_secondaryGtf {b : Bytes 18} (h : b[10] = 0x02) :
    drlTimingDecode b = .secondaryGtf (secondaryGtfOf b) := if_pos h

theorem drlTimingDecode_cvtSupport {b : Bytes 18} (h : b[10] = 0x04) :
    drlTimingDecode b = .cvtSupport (cvtSupportOf b) := by
  rw [drlTimingDecode, if_neg (by rw [h]; decide), if_pos h]
  rfl

theorem drlTimingDecode_plain {b : Bytes 18} (hgtf : b[10] ≠ 0x02) (hcvt : b[10] ≠ 0x04) :
    drlTimingDecode b = .plain b[10] #v[b[11], b[12], b[13], b[14], b[15], b[16], b[17]] := by
  rw [drlTimingDecode, if_neg hgtf, if_neg hcvt]

theorem drlTimingDecode_cases (b : Bytes 18) :
    (b[10] = 0x02 ∧ drlTimingDecode b = .secondaryGtf (secondaryGtfOf b)) ∨
      (b[10] = 0x04 ∧ drlTimingDecode b = .cvtSupport (cvtSupportOf b)) ∨
        (b[10] ≠ 0x02 ∧ b[10] ≠ 0x04 ∧
          drlTimingDecode b = .plain b[10] #v[b[11], b[12], b[13], b[14], b[15], b[16], b[17]]) := by
  by_cases hgtf : b[10] = 0x02
  · exact .inl ⟨hgtf, drlTimingDecode_secondaryGtf hgtf⟩
  · by_cases hcvt : b[10] = 0x04
    · exact .inr (.inl ⟨hcvt, drlTimingDecode_cvtSupport hcvt⟩)
    · exact .inr (.inr ⟨hgtf, hcvt, drlTimingDecode_plain hgtf hcvt⟩)

/-- The bytes of a slot that hold its nested timing. -/
theorem slot_drop_ten (b : Bytes 18) :
    b.toList.drop 10 = [b[10], b[11], b[12], b[13], b[14], b[15], b[16], b[17]] := by
  rw [slot_toList]
  rfl

theorem drlTimingEncode_plain {selector : Byte} (hgtf : selector ≠ 0x02) (hcvt : selector ≠ 0x04) (raw : Bytes 7) :
    drlTimingEncode (.plain selector raw) = .ok (selector :: raw.toList) :=
  if_neg (not_or.2 ⟨hgtf, hcvt⟩)

theorem drlTimingEncode_refused {selector : Byte} (h : selector = 0x02 ∨ selector = 0x04) (raw : Bytes 7) :
    drlTimingEncode (.plain selector raw) = .error .failMalformed :=
  if_pos h

/-- R208: the nested timing read from a slot is written as the slot's bytes 10 to 17. -/
theorem drlTimingEncode_drlTimingDecode (b : Bytes 18) :
    drlTimingEncode (drlTimingDecode b) = .ok (b.toList.drop 10) := by
  rw [slot_drop_ten]
  obtain ⟨hselector, htiming⟩ | ⟨hselector, htiming⟩ | ⟨hgtf, hcvt, htiming⟩ := drlTimingDecode_cases b
  · obtain ⟨hhigh, hlow⟩ := (twoBytes_eq_append_iff (b[15] ++ b[14]) b[15] b[14]).1 rfl
    rw [htiming, hselector]
    simp only [drlTimingEncode, secondaryGtfOf, hhigh, hlow]
  · obtain ⟨hhigh, hlow⟩ := (tenBits_eq_append_iff (field b[12] 1 0 ++ b[13]) (field b[12] 1 0) b[13]).1 rfl
    rw [htiming, hselector]
    simp only [drlTimingEncode, cvtSupportOf, hhigh, hlow, ← byte_eq_bits72_bits10, ← byte_eq_bits73_bits20,
      ← byte_eq_bits74_bits30, ← byte_eq_bits75_flags_bits20]
  · rw [htiming, drlTimingEncode_plain hgtf hcvt]
    rfl

/-- R208: bytes 10 to 17 that the encoder writes are read back. -/
theorem drlTimingDecode_of_drlTimingEncode {t : DrlTiming} {b : Bytes 18}
    (h : drlTimingEncode t = .ok (b.toList.drop 10)) : drlTimingDecode b = t := by
  rw [slot_drop_ten] at h
  cases t with
  | plain selector raw =>
    by_cases hselector : selector = 0x02 ∨ selector = 0x04
    · rw [drlTimingEncode_refused hselector] at h
      cases h
    · obtain ⟨hgtf, hcvt⟩ := not_or.1 hselector
      rw [drlTimingEncode_plain hgtf hcvt, Except.ok.injEq, List.cons.injEq] at h
      obtain ⟨rfl, hraw⟩ := h
      rw [drlTimingDecode_plain hgtf hcvt, DrlTiming.plain.injEq]
      exact ⟨rfl, Vector.toList_inj.1 hraw.symm⟩
  | secondaryGtf g =>
    obtain ⟨rsv, hBreak2, c2, m, k, j2⟩ := g
    simp only [drlTimingEncode, Except.ok.injEq, List.cons.injEq, and_true] at h
    obtain ⟨hselector, rfl, rfl, rfl, hlow, hhigh, rfl, rfl⟩ := h
    rw [drlTimingDecode_secondaryGtf hselector.symm, (twoBytes_eq_append_iff m b[15] b[14]).2 ⟨hhigh, hlow⟩]
    rfl
  | cvtSupport c =>
    obtain ⟨version, pclkOffset, maxActive8, aspects, aspectsRsv, prefAspect, rb, std, blankRsv, scaling, scalingRsv,
      prefVRate⟩ := c
    simp only [drlTimingEncode, Except.ok.injEq, List.cons.injEq, and_true] at h
    obtain ⟨hselector, rfl, h12, h13, h14, h15, h16, rfl⟩ := h
    rw [byte_eq_bits72_bits10 b[12], append_inj] at h12
    rw [byte_eq_bits73_bits20 b[14], append_inj] at h14
    rw [byte_eq_bits75_flags_bits20 b[15], append_inj, append_inj, append_inj, flag_inj, flag_inj] at h15
    rw [byte_eq_bits74_bits30 b[16], append_inj] at h16
    obtain ⟨rfl, hhigh⟩ := h12
    obtain ⟨rfl, rfl⟩ := h14
    obtain ⟨⟨⟨rfl, rfl⟩, rfl⟩, rfl⟩ := h15
    obtain ⟨rfl, rfl⟩ := h16
    rw [drlTimingDecode_cvtSupport hselector.symm,
      (tenBits_eq_append_iff maxActive8 (field b[12] 1 0) b[13]).2 ⟨hhigh, h13⟩]
    rfl

/-! ## The record and its first ten bytes (R110, R111, R203, R204) -/

/-- R203: the record of a slot with the header. -/
def drlOf (b : Bytes 18) : Drl :=
  { vMin := b[5], vMax := b[6], hMin := b[7], hMax := b[8]
    vMinPlus255 := bit b[4] 0, vMaxPlus255 := bit b[4] 1
    hMinPlus255 := bit b[4] 2, hMaxPlus255 := bit b[4] 3
    flagsRsv := field b[4] 7 4
    maxPclk10 := b[9]
    timing := drlTimingDecode b }

theorem rangeDecode_eq (b : Bytes 18) :
    rangeDecode b =
      if header b 0xFD false = true then .ok (.displayRangeLimits (drlOf b)) else .error .notThisType := rfl

theorem rangeDecode_ok_iff (b : Bytes 18) (d : Descriptor) :
    rangeDecode b = .ok d ↔ header b 0xFD false = true ∧ d = .displayRangeLimits (drlOf b) := by
  rw [rangeDecode_eq]
  split_ifs with hheader
  · simp only [Except.ok.injEq, hheader, true_and, eq_comm]
  · simp only [reduceCtorEq, hheader, false_and]

theorem rangeEncode_ok_iff (d : Descriptor) (l : List Byte) :
    rangeEncode d = .ok l ↔
      ∃ r rest, d = .displayRangeLimits r ∧ drlTimingEncode r.timing = .ok rest ∧ drlHead r ++ rest = l := by
  cases d with
  | displayRangeLimits r => cases h : drlTimingEncode r.timing <;> simp [rangeEncode, h]
  | _ => simp [rangeEncode]

theorem rangeEncode_other {d : Descriptor} (h : ∀ r, d ≠ .displayRangeLimits r) :
    rangeEncode d = .error .doesNotApply := by
  cases d with
  | displayRangeLimits r => exact absurd rfl (h r)
  | _ => rfl

theorem drlHead_length (r : Drl) : (drlHead r).length = 10 := rfl

theorem slot_take_ten (b : Bytes 18) :
    b.toList.take 10 = [b[0], b[1], b[2], b[3], b[4], b[5], b[6], b[7], b[8], b[9]] := by
  rw [slot_toList]
  rfl

/-- R204: what the ten bytes before the nested timing say of a slot and of the record read from it. -/
theorem drlHead_eq_take_iff (r : Drl) (b : Bytes 18) :
    drlHead r = b.toList.take 10 ↔ header b 0xFD false = true ∧ { drlOf b with timing := r.timing } = r := by
  obtain ⟨vMin, vMax, hMin, hMax, vMinFlag, vMaxFlag, hMinFlag, hMaxFlag, flagsRsv, maxPclk, timing⟩ := r
  have hflags :
      flagsRsv ++ flag hMaxFlag ++ flag hMinFlag ++ flag vMaxFlag ++ flag vMinFlag = b[4] ↔
        (((flagsRsv = field b[4] 7 4 ∧ hMaxFlag = bit b[4] 3) ∧ hMinFlag = bit b[4] 2) ∧ vMaxFlag = bit b[4] 1) ∧
          vMinFlag = bit b[4] 0 := by
    conv_lhs => rw [byte_eq_bits74_flags b[4]]
    simp only [append_inj, flag_inj]
  rw [slot_take_ten, header_iff]
  simp only [drlHead, drlOf, List.cons.injEq, hflags, Drl.mk.injEq]
  -- Both sides now list the same equations, field by field.
  grind

/-- R208 for the range limits: the slot's first ten bytes and its last eight each determine their part of the record. -/
theorem rangeDecode_iff_rangeEncode (b : Bytes 18) (d : Descriptor) :
    rangeDecode b = .ok d ↔ rangeEncode d = .ok b.toList := by
  rw [rangeDecode_ok_iff, rangeEncode_ok_iff]
  constructor
  · rintro ⟨hheader, rfl⟩
    refine ⟨drlOf b, b.toList.drop 10, rfl, drlTimingEncode_drlTimingDecode b, ?_⟩
    rw [(drlHead_eq_take_iff (drlOf b) b).2 ⟨hheader, rfl⟩, List.take_append_drop]
  · rintro ⟨r, rest, rfl, htiming, hslot⟩
    have hhead : drlHead r = b.toList.take 10 := by rw [← hslot, List.take_left' (drlHead_length r)]
    have hrest : rest = b.toList.drop 10 := by rw [← hslot, List.drop_left' (drlHead_length r)]
    obtain ⟨hheader, hr⟩ := (drlHead_eq_take_iff r b).1 hhead
    have hdecoded := drlTimingDecode_of_drlTimingEncode (htiming.trans (congrArg _ hrest))
    refine ⟨hheader, congrArg _ (hr.symm.trans ?_)⟩
    rw [← hdecoded]
    rfl

end Sys2Proof.Machine
end

section
/-! The Established Timings III descriptor (R205 to R207). -/

namespace Sys2Proof.Machine

/-- R116: the bitmap and the reserved bytes of a slot. -/
def et3Of (b : Bytes 18) : Et3 :=
  { bitmap := #v[b[6], b[7], b[8], b[9], b[10], b[11]], rsv := #v[b[12], b[13], b[14], b[15], b[16], b[17]] }

/-- R116: the slot of a record. -/
def et3Slot (e : Et3) : List Byte :=
  [0x00, 0x00, 0x00, 0xF7, 0x00, 0x0A] ++ e.bitmap.toList ++ e.rsv.toList

theorem toList_eq_et3 (b : Bytes 18) :
    b.toList = [b[0], b[1], b[2], b[3], b[4], b[5]] ++ (et3Of b).bitmap.toList ++ (et3Of b).rsv.toList :=
  slot_toList b

theorem slot_take_six (b : Bytes 18) : b.toList.take 6 = [b[0], b[1], b[2], b[3], b[4], b[5]] := by
  rw [slot_toList]
  rfl

/-- R205: the header and the marker are the first six bytes. -/
theorem take_six_eq_marker_iff (b : Bytes 18) :
    b.toList.take 6 = [0x00, 0x00, 0x00, 0xF7, 0x00, 0x0A] ↔ header b 0xF7 true = true ∧ b[5] = 0x0A := by
  simp [slot_take_six, header_iff, and_assoc]

theorem et3Decode_eq (b : Bytes 18) :
    et3Decode b =
      if b.toList.take 6 = [0x00, 0x00, 0x00, 0xF7, 0x00, 0x0A] then .ok (.establishedTimingsIII (et3Of b))
      else .error .notThisType := by
  simp only [take_six_eq_marker_iff, ite_and]
  rfl

theorem toList_eq_et3Slot_iff (b : Bytes 18) (e : Et3) :
    b.toList = et3Slot e ↔ b.toList.take 6 = [0x00, 0x00, 0x00, 0xF7, 0x00, 0x0A] ∧ e = et3Of b := by
  constructor
  · intro h
    refine ⟨by rw [h]; rfl, ?_⟩
    rw [toList_eq_et3, et3Slot] at h
    obtain ⟨hfront, hrsv⟩ := List.append_inj h (by simp)
    obtain ⟨-, hbitmap⟩ := List.append_inj hfront rfl
    rw [Vector.toList_inj] at hrsv hbitmap
    rw [Et3.mk.injEq]
    exact ⟨hbitmap.symm, hrsv.symm⟩
  · rintro ⟨hmarker, rfl⟩
    rw [slot_take_six] at hmarker
    rw [toList_eq_et3, hmarker, et3Slot]

theorem et3Decode_ok_iff (b : Bytes 18) (d : Descriptor) :
    et3Decode b = .ok d ↔ ∃ e, d = .establishedTimingsIII e ∧ b.toList = et3Slot e := by
  simp only [et3Decode_eq, toList_eq_et3Slot_iff]
  split_ifs with hmarker
  · simp only [Except.ok.injEq, hmarker, true_and, exists_eq_right, eq_comm]
  · simp only [hmarker, false_and, and_false, exists_false]

theorem et3Encode_ok_iff (d : Descriptor) (l : List Byte) :
    et3Encode d = .ok l ↔ ∃ e, d = .establishedTimingsIII e ∧ l = et3Slot e := by
  cases d with
  | establishedTimingsIII e => simp [et3Encode, et3Slot, eq_comm]
  | _ => simp [et3Encode]

theorem et3Encode_other {d : Descriptor} (h : ∀ e, d ≠ .establishedTimingsIII e) :
    et3Encode d = .error .doesNotApply := by
  cases d with
  | establishedTimingsIII e => exact absurd rfl (h e)
  | _ => rfl

end Sys2Proof.Machine
end

section
/-! The registry as a table (R190, R209, R210): the six variants by their place in it, what tells their slots apart (the
tag) and what tells their descriptors apart (the variant). -/

namespace Sys2Proof.Machine

/-! ## The table -/

/-- The decoders of R210, by place. -/
def registryDecoderTable : Vector (Bytes 18 → Except Status Descriptor) 6 :=
  #v[dummyDecode, serialDecode, alnumDecode, rangeDecode, nameDecode, et3Decode]

/-- The encoders in the same order. -/
def registryEncoderTable : Vector (Descriptor → Except Status (List Byte)) 6 :=
  #v[dummyEncode, serialEncode, alnumEncode, rangeEncode, nameEncode, et3Encode]

/-- The tags of R106 in the same order. -/
def registryTags : Vector Byte 6 :=
  #v[0x10, 0xFF, 0xFE, 0xFD, 0xFC, 0xF7]

/-- The place of a descriptor's own variant; a detailed timing and an opaque slot have none. -/
def registryIndex (d : Descriptor) : Option (Fin 6) :=
  match d with
  | .dummy => some 0
  | .serialNumber _ => some 1
  | .alphanumericString _ => some 2
  | .displayRangeLimits _ => some 3
  | .productName _ => some 4
  | .establishedTimingsIII _ => some 5
  | .detailedTiming _ => none
  | .opaqueSlot _ => none

theorem registryDecoderTable_toList : registryDecoderTable.toList = registryDecoders := rfl

theorem mem_registryDecoders_iff (f : Bytes 18 → Except Status Descriptor) :
    f ∈ registryDecoders ↔ ∃ k : Fin 6, registryDecoderTable[k] = f := by
  rw [← registryDecoderTable_toList, Vector.mem_toList_iff, Vector.mem_iff_getElem]
  exact ⟨fun ⟨i, hi, hf⟩ => ⟨⟨i, hi⟩, hf⟩, fun ⟨k, hf⟩ => ⟨k, k.isLt, hf⟩⟩

theorem registryDecInstrs_runsDecoder (k : Fin 6) : RunsDecoder registryDecInstrs[k] registryDecoderTable[k] := by
  fin_cases k <;> exact fun _ => rfl

theorem registryEncInstrs_runsEncoder (k : Fin 6) : RunsEncoder registryEncInstrs[k] registryEncoderTable[k] := by
  fin_cases k <;> exact fun _ => rfl

/-! ## Round trip (R208) -/

theorem registryDecoder_iff_registryEncoder (k : Fin 6) (b : Bytes 18) (d : Descriptor) :
    registryDecoderTable[k] b = .ok d ↔ registryEncoderTable[k] d = .ok b.toList := by
  match k with
  | 0 => exact (dummyDecode_ok_iff b d).trans (dummyEncode_ok_iff d _).symm
  | 1 => exact serialEncode_encodesStrings.decode_iff_encode b d
  | 2 => exact alnumEncode_encodesStrings.decode_iff_encode b d
  | 3 => exact rangeDecode_iff_rangeEncode b d
  | 4 => exact nameEncode_encodesStrings.decode_iff_encode b d
  | 5 => exact (et3Decode_ok_iff b d).trans (et3Encode_ok_iff d _).symm

theorem registryEncoder_endsWell (k : Fin 6) (d : Descriptor) :
    EndsWell (fun l => l.length = 18) (registryEncoderTable[k] d) := by
  match k with
  | 0 => exact dummyEncode_endsWell d
  | 1 => exact serialEncode_endsWell d
  | 2 => exact alnumEncode_endsWell d
  | 3 => exact rangeEncode_endsWell d
  | 4 => exact nameEncode_endsWell d
  | 5 => exact et3Encode_endsWell d

theorem registryPairInverse_at (k : Fin 6) : registryPairInverse registryDecInstrs[k] registryEncInstrs[k] :=
  registryPairInverse_of_iff (registryDecInstrs_runsDecoder k) (registryEncInstrs_runsEncoder k)
    (registryEncoder_endsWell k) (registryDecoder_iff_registryEncoder k)

/-! ## Decoders: told apart by the tag (R191, R209) -/

/-- R190: a registry decoder answers a descriptor or `NOT_THIS_TYPE`. -/
theorem registryDecoder_ok_or_notThisType (k : Fin 6) (b : Bytes 18) :
    (∃ d, registryDecoderTable[k] b = .ok d) ∨ registryDecoderTable[k] b = .error .notThisType := by
  match k with
  | 0 =>
    change (∃ d, dummyDecode b = .ok d) ∨ dummyDecode b = .error .notThisType
    unfold dummyDecode
    split_ifs
    exacts [.inl ⟨_, rfl⟩, .inr rfl, .inr rfl]
  | 1 | 2 | 4 => exact stringDecode_ok_or_notThisType _ _ b
  | 3 =>
    change (∃ d, rangeDecode b = .ok d) ∨ rangeDecode b = .error .notThisType
    rw [rangeDecode_eq]
    split_ifs
    exacts [.inl ⟨_, rfl⟩, .inr rfl]
  | 5 =>
    change (∃ d, et3Decode b = .ok d) ∨ et3Decode b = .error .notThisType
    rw [et3Decode_eq]
    split_ifs
    exacts [.inl ⟨_, rfl⟩, .inr rfl]

/-- R105: the slot of a string begins with its header. -/
theorem header_of_isStringSlot {tag : Byte} {c : List Byte} {b : Bytes 18} (h : IsStringSlot tag c b.toList) :
    header b tag true = true := by
  obtain ⟨p, -, hslot⟩ := (isStringSlot_iff tag c _).1 h
  exact ((toList_eq_header_append_iff b tag p).1 hslot).1

/-- R191: a registry decoder accepts only slots whose first four bytes are its header. -/
theorem header_of_registryDecoder {k : Fin 6} {b : Bytes 18} {d : Descriptor} (h : registryDecoderTable[k] b = .ok d) :
    b[0] = 0 ∧ b[1] = 0 ∧ b[2] = 0 ∧ b[3] = registryTags[k] := by
  suffices hheader : ∃ byte4Zero, header b registryTags[k] byte4Zero = true by
    obtain ⟨byte4Zero, hheader⟩ := hheader
    obtain ⟨h0, h1, h2, h3, -⟩ := (header_iff b _ byte4Zero).1 hheader
    exact ⟨h0, h1, h2, h3⟩
  match k with
  | 0 =>
    obtain ⟨-, hslot⟩ := (dummyDecode_ok_iff b d).1 h
    exact ⟨true, ((toList_eq_header_append_iff b 0x10 (List.replicate 13 0x00)).1 hslot).1⟩
  | 1 | 2 | 4 =>
    obtain ⟨c, -, hslot⟩ := (stringDecode_ok_iff _ _ b d).1 h
    exact ⟨true, header_of_isStringSlot hslot⟩
  | 3 => exact ⟨false, ((rangeDecode_ok_iff b d).1 h).1⟩
  | 5 =>
    obtain ⟨e, -, hslot⟩ := (et3Decode_ok_iff b d).1 h
    exact ⟨true, ((take_six_eq_marker_iff b).1 ((toList_eq_et3Slot_iff b e).1 hslot).1).1⟩

theorem registryTags_injective : ∀ j k : Fin 6, registryTags[j] = registryTags[k] → j = k := by
  decide

/-- R209: the tag in byte 3 says which decoder can accept a slot. -/
theorem registryDecoder_unique {j k : Fin 6} {b : Bytes 18} {d e : Descriptor}
    (hj : registryDecoderTable[j] b = .ok d) (hk : registryDecoderTable[k] b = .ok e) : j = k := by
  obtain ⟨-, -, -, htagj⟩ := header_of_registryDecoder hj
  obtain ⟨-, -, -, htagk⟩ := header_of_registryDecoder hk
  exact registryTags_injective j k (htagj.symm.trans htagk)

theorem registryDecoders_agree {f g : Bytes 18 → Except Status Descriptor} (hf : f ∈ registryDecoders)
    (hg : g ∈ registryDecoders) {b : Bytes 18} {d e : Descriptor} (hfb : f b = .ok d) (hgb : g b = .ok e) : d = e := by
  obtain ⟨j, rfl⟩ := (mem_registryDecoders_iff f).1 hf
  obtain ⟨k, rfl⟩ := (mem_registryDecoders_iff g).1 hg
  obtain rfl := registryDecoder_unique hfb hgb
  exact Except.ok.inj (hfb.symm.trans hgb)

theorem firstAccepting_isSome {ds : List (Bytes 18 → Except Status Descriptor)}
    {f : Bytes 18 → Except Status Descriptor} (hf : f ∈ ds) {b : Bytes 18} {d : Descriptor}
    (hfb : f b = .ok d) : ∃ e, firstAccepting ds b = some e := by
  induction ds with
  | nil => cases hf
  | cons g rest ih =>
    cases hg : g b with
    | ok e => exact ⟨e, by simp only [firstAccepting, hg]⟩
    | error s =>
      have hrest : f ∈ rest := (List.mem_cons.1 hf).resolve_left fun hfg => by
        rw [← hfg, hfb] at hg
        cases hg
      simpa only [firstAccepting, hg] using ih hrest

/-- R209, R210: whatever the order of the table, the answer is what any of its decoders gives. -/
theorem firstAccepting_eq_some_iff {ds : List (Bytes 18 → Except Status Descriptor)} (hds : ds.Perm registryDecoders)
    (b : Bytes 18) (d : Descriptor) :
    firstAccepting ds b = some d ↔ ∃ k : Fin 6, registryDecoderTable[k] b = .ok d := by
  constructor
  · intro h
    obtain ⟨f, hf, hfb⟩ := firstAccepting_some h
    obtain ⟨k, rfl⟩ := (mem_registryDecoders_iff f).1 (hds.mem_iff.1 hf)
    exact ⟨k, hfb⟩
  · rintro ⟨k, hk⟩
    have hmem : registryDecoderTable[k] ∈ registryDecoders := (mem_registryDecoders_iff _).2 ⟨k, rfl⟩
    obtain ⟨e, he⟩ := firstAccepting_isSome (hds.mem_iff.2 hmem) hk
    obtain ⟨f, hf, hfb⟩ := firstAccepting_some he
    rw [he, registryDecoders_agree (hds.mem_iff.1 hf) hmem hfb hk]

theorem regDecode_eq_some_iff (b : Bytes 18) (d : Descriptor) :
    regDecode b = some d ↔ ∃ k : Fin 6, registryDecoderTable[k] b = .ok d :=
  firstAccepting_eq_some_iff (.refl _) b d

/-! ## Encoders: told apart by the variant (R190, R209, R212) -/

/-- R190: an encoder does not apply to a descriptor of another variant. -/
theorem registryEncoder_other {k : Fin 6} {d : Descriptor} (h : registryIndex d ≠ some k) :
    registryEncoderTable[k] d = .error .doesNotApply := by
  match k with
  | 0 => exact dummyEncode_other fun hd => h (hd ▸ rfl)
  | 1 => exact serialEncode_encodesStrings.other d fun c hd => h (hd ▸ rfl)
  | 2 => exact alnumEncode_encodesStrings.other d fun c hd => h (hd ▸ rfl)
  | 3 => exact rangeEncode_other fun r hd => h (hd ▸ rfl)
  | 4 => exact nameEncode_encodesStrings.other d fun c hd => h (hd ▸ rfl)
  | 5 => exact et3Encode_other fun e hd => h (hd ▸ rfl)

/-- R212: SLOT_ENC takes the encoder of the descriptor's own variant. -/
theorem slotEncode_of_registryIndex {k : Fin 6} {d : Descriptor} (h : registryIndex d = some k) :
    slotEncode d = registryEncoderTable[k] d := by
  cases d with
  | detailedTiming t | opaqueSlot raw => cases h
  | _ =>
    obtain rfl := Option.some.inj h
    rfl

theorem registryIndex_of_registryEncoder {k : Fin 6} {d : Descriptor}
    (h : registryEncoderTable[k] d ≠ .error .doesNotApply) : registryIndex d = some k :=
  not_not.1 fun hother => h (registryEncoder_other hother)

theorem exists_registryIndex {d : Descriptor} (htiming : ∀ t, d ≠ .detailedTiming t)
    (hopaque : ∀ raw, d ≠ .opaqueSlot raw) : ∃ k, registryIndex d = some k := by
  cases d with
  | detailedTiming t => exact absurd rfl (htiming t)
  | opaqueSlot raw => exact absurd rfl (hopaque raw)
  | _ => exact ⟨_, rfl⟩

end Sys2Proof.Machine
end

section
/-! The slot dispatcher (R211 to R213), on top of the table of the registry. -/

namespace Sys2Proof.Machine

/-! ## Decoding (R211) -/

theorem not_isTiming {b : Bytes 18} (h0 : b[0] = 0) (h1 : b[1] = 0) : ¬ isTiming b = true := by
  simp [isTiming_iff, h0, h1]

theorem slotDecode_timing {b : Bytes 18} (h : isTiming b = true) : slotDecode b = .detailedTiming (dtdDecode b) :=
  if_pos h

theorem slotDecode_byte2 {b : Bytes 18} (h0 : b[0] = 0) (h1 : b[1] = 0) (h2 : b[2] ≠ 0) :
    slotDecode b = .opaqueSlot b := by
  rw [slotDecode, if_neg (not_isTiming h0 h1), if_pos h2]

theorem slotDecode_of_registryDecoder {k : Fin 6} {b : Bytes 18} {d : Descriptor}
    (h : registryDecoderTable[k] b = .ok d) : slotDecode b = d := by
  obtain ⟨h0, h1, h2, -⟩ := header_of_registryDecoder h
  rw [slotDecode, if_neg (not_isTiming h0 h1), if_neg (not_not.2 h2), (regDecode_eq_some_iff b d).2 ⟨k, h⟩]

/-- R211: a slot that is no timing and that no registry decoder accepts is kept as it is. -/
theorem slotDecode_opaque {b : Bytes 18} (htiming : ¬ isTiming b = true)
    (hnone : ∀ k : Fin 6, ∀ d, registryDecoderTable[k] b ≠ .ok d) : slotDecode b = .opaqueSlot b := by
  have hregistry : regDecode b = none := Option.eq_none_iff_forall_ne_some.2 fun d hd =>
    let ⟨k, hk⟩ := (regDecode_eq_some_iff b d).1 hd
    hnone k d hk
  rw [slotDecode, if_neg htiming, hregistry]
  split_ifs <;> rfl

/-- R211: the three classes of slots. -/
theorem slotDecode_cases (b : Bytes 18) :
    (isTiming b = true ∧ slotDecode b = .detailedTiming (dtdDecode b)) ∨
      (∃ k : Fin 6, registryDecoderTable[k] b = .ok (slotDecode b)) ∨ slotDecode b = .opaqueSlot b := by
  by_cases htiming : isTiming b = true
  · exact .inl ⟨htiming, slotDecode_timing htiming⟩
  · by_cases hregistry : ∃ k : Fin 6, ∃ d, registryDecoderTable[k] b = .ok d
    · obtain ⟨k, d, hk⟩ := hregistry
      exact .inr (.inl ⟨k, (slotDecode_of_registryDecoder hk).symm ▸ hk⟩)
    · simp only [not_exists] at hregistry
      exact .inr (.inr (slotDecode_opaque htiming hregistry))

/-! ## Round trip (R213) -/

theorem slotEncode_of_registryEncoder {k : Fin 6} {d : Descriptor} {l : List Byte}
    (h : registryEncoderTable[k] d = .ok l) : slotEncode d = .ok l :=
  (slotEncode_of_registryIndex (registryIndex_of_registryEncoder (by simp [h]))).trans h

theorem slotEncode_slotDecode (b : Bytes 18) : slotEncode (slotDecode b) = .ok b.toList := by
  obtain ⟨htiming, hd⟩ | ⟨k, hk⟩ | hd := slotDecode_cases b
  · rw [hd]
    exact dtdEncode_dtdDecode htiming
  · exact slotEncode_of_registryEncoder ((registryDecoder_iff_registryEncoder k b _).1 hk)
  · rw [hd]
    rfl

/-- R213: the bytes of an accepted descriptor read as it, unless it is opaque and its bytes read as something else. -/
theorem slotDecode_of_slotEncode {d : Descriptor} {b : Bytes 18} (h : slotEncode d = .ok b.toList)
    (hopaque : ∀ raw, d = .opaqueSlot raw → slotDecode raw = .opaqueSlot raw) : slotDecode b = d := by
  cases hindex : registryIndex d with
  | some k =>
    rw [slotEncode_of_registryIndex hindex] at h
    exact slotDecode_of_registryDecoder ((registryDecoder_iff_registryEncoder k b d).2 h)
  | none =>
    cases d with
    | detailedTiming t =>
      obtain ⟨b', hb', htiming, rfl⟩ := exists_slot_of_dtdEncode h
      obtain rfl := Vector.toList_inj.1 hb'
      exact slotDecode_timing htiming
    | opaqueSlot raw =>
      obtain rfl := Vector.toList_inj.1 (Except.ok.inj h)
      exact hopaque raw rfl
    | _ => cases hindex

/-! ## What SLOT_ENC accepts (R212) -/

theorem syncBits_eq_none_iff (y : Sync) : syncBits y = none ↔ y.wellFormed = false := by
  fun_cases Sync.wellFormed y <;> simp [syncBits]

theorem dtdEncode_cases (d : Dtd) :
    (d.encodable = true ∧ ∃ l, dtdEncode d = .ok l) ∨ (d.encodable = false ∧ dtdEncode d = .error .failMalformed) := by
  by_cases hrefused : d.pixelClock = 0 ∨ syncBits d.sync = none
  · refine .inr ⟨?_, dtdEncode_refused hrefused⟩
    rw [syncBits_eq_none_iff] at hrefused
    obtain hclock | hsync := hrefused
    · simp [Dtd.encodable, hclock]
    · simp [Dtd.encodable, hsync]
  · obtain ⟨hclock, hbits⟩ := not_or.1 hrefused
    refine .inl ⟨?_, ?_⟩
    · rw [syncBits_eq_none_iff, Bool.not_eq_false] at hbits
      simpa [Dtd.encodable, hbits] using hclock
    · obtain ⟨hnone, -⟩ | ⟨v, hv, -⟩ := syncEncode_cases d.sync
      · exact absurd hnone hbits
      · exact ⟨_, (dtdEncode_ok_iff d _).2 ⟨hclock, v, hv, rfl⟩⟩

theorem stringEncode_cases (tag : Byte) (c : List Byte) :
    (stringEncodable c = true ∧ ∃ l, stringEncode tag c = .ok l) ∨
      (stringEncodable c = false ∧ stringEncode tag c = .error .failMalformed) := by
  have hencodable : stringEncodable c = true ↔ c.length ≤ 13 ∧ 0x0A ∉ c := by
    simp only [stringEncodable, Bool.and_eq_true, decide_eq_true_iff, Bool.not_eq_true', List.contains_eq_mem,
      decide_eq_false_iff_not]
  by_cases h : c.length ≤ 13 ∧ 0x0A ∉ c
  · exact .inl ⟨hencodable.2 h, exists_stringEncode tag h.1 h.2⟩
  · refine .inr ⟨Bool.eq_false_iff.2 (mt hencodable.1 h), stringEncode_refused tag ?_⟩
    rwa [not_and_or, not_le, not_not] at h

theorem drlTimingEncode_cases (t : DrlTiming) :
    (t.encodable = true ∧ ∃ rest, drlTimingEncode t = .ok rest) ∨
      (t.encodable = false ∧ drlTimingEncode t = .error .failMalformed) := by
  cases t with
  | plain selector raw =>
    by_cases hselector : selector = 0x02 ∨ selector = 0x04
    · refine .inr ⟨?_, drlTimingEncode_refused hselector raw⟩
      obtain rfl | rfl := hselector <;> rfl
    · obtain ⟨hgtf, hcvt⟩ := not_or.1 hselector
      exact .inl ⟨by simpa [DrlTiming.encodable] using And.intro hgtf hcvt, _, drlTimingEncode_plain hgtf hcvt raw⟩
  | secondaryGtf g | cvtSupport c => exact .inl ⟨rfl, _, rfl⟩

theorem rangeEncode_cases (r : Drl) :
    (r.timing.encodable = true ∧ ∃ l, rangeEncode (.displayRangeLimits r) = .ok l) ∨
      (r.timing.encodable = false ∧ rangeEncode (.displayRangeLimits r) = .error .failMalformed) := by
  obtain ⟨hencodable, rest, hrest⟩ | ⟨hencodable, herror⟩ := drlTimingEncode_cases r.timing
  · exact .inl ⟨hencodable, _, (rangeEncode_ok_iff _ _).2 ⟨r, rest, rfl, hrest, rfl⟩⟩
  · exact .inr ⟨hencodable, by simp [rangeEncode, herror]⟩

/-- R212: SLOT_ENC writes exactly the encodable descriptors, and `FAIL_MALFORMED` is its only refusal. -/
theorem slotEncode_cases (d : Descriptor) :
    (d.encodable = true ∧ ∃ l, slotEncode d = .ok l) ∨
      (d.encodable = false ∧ slotEncode d = .error .failMalformed) := by
  cases d with
  | detailedTiming t => exact dtdEncode_cases t
  | serialNumber c | alphanumericString c | productName c => exact stringEncode_cases _ c
  | displayRangeLimits r => exact rangeEncode_cases r
  | dummy | establishedTimingsIII e | opaqueSlot raw => exact .inl ⟨rfl, _, rfl⟩

end Sys2Proof.Machine
end

section
/-! The bytes of a range-limits slot as numbers (R203, R204). -/

namespace Sys2Proof.Machine

theorem plus255_eq (v : Byte) (offset : Bool) : plus255 v offset = v.toNat + 255 * offset.toNat := by
  cases offset <;> rfl

theorem drlHead_map_toNat (r : Drl) :
    (drlHead r).map BitVec.toNat =
      [0, 0, 0, 0xFD,
       16 * r.flagsRsv.toNat + 8 * r.hMaxPlus255.toNat + 4 * r.hMinPlus255.toNat + 2 * r.vMaxPlus255.toNat +
         r.vMinPlus255.toNat,
       r.vMin.toNat, r.vMax.toNat, r.hMin.toNat, r.hMax.toNat, r.maxPclk10.toNat] := by
  have hflags :
      (r.flagsRsv ++ flag r.hMaxPlus255 ++ flag r.hMinPlus255 ++ flag r.vMaxPlus255 ++ flag r.vMinPlus255).toNat =
        16 * r.flagsRsv.toNat + 8 * r.hMaxPlus255.toNat + 4 * r.hMinPlus255.toNat + 2 * r.vMaxPlus255.toNat +
          r.vMinPlus255.toNat := by
    simp only [append_toNat, flag_toNat]
    omega
  simp only [drlHead, List.map_cons, List.map_nil, hflags]
  rfl

theorem drlTimingEncode_secondaryGtf_toNat (g : SecondaryGtf) :
    ∃ rest, drlTimingEncode (.secondaryGtf g) = .ok rest ∧
      rest.map BitVec.toNat =
        [2, g.rsv.toNat, g.hBreak2.toNat, g.c2.toNat, g.m.toNat % 256, g.m.toNat / 256, g.k.toNat, g.j2.toNat] := by
  refine ⟨_, rfl, ?_⟩
  simp only [List.map_cons, List.map_nil, lowByte_toNat, highByte_toNat]
  rfl

theorem drlTimingEncode_cvtSupport_toNat (c : CvtSupport) :
    ∃ rest, drlTimingEncode (.cvtSupport c) = .ok rest ∧
      rest.map BitVec.toNat =
        [4, c.version.toNat, 4 * c.pclkOffset.toNat + c.maxActive8.toNat / 256, c.maxActive8.toNat % 256,
          8 * c.aspects.toNat + c.aspectsRsv.toNat,
          32 * c.prefAspect.toNat + 16 * c.rbSupported.toNat + 8 * c.stdSupported.toNat + c.blankRsv.toNat,
          16 * c.scaling.toNat + c.scalingRsv.toNat, c.prefVRate.toNat] := by
  refine ⟨_, rfl, ?_⟩
  simp only [List.map_cons, List.map_nil, List.cons.injEq, append_toNat, field_toNat, flag_toNat, true_and, and_true]
  refine ⟨rfl, ?_⟩
  omega

theorem encodesTo_regEncRange_toNat {r : Drl} {tail : List Nat}
    (h : ∃ rest, drlTimingEncode r.timing = .ok rest ∧ rest.map BitVec.toNat = tail) :
    ∃ l, encodesTo .regEncRange (.displayRangeLimits r) l ∧
      l.map BitVec.toNat = (drlHead r).map BitVec.toNat ++ tail := by
  obtain ⟨rest, hrest, rfl⟩ := h
  exact ⟨drlHead r ++ rest,
    ((registryEncInstrs_runsEncoder 3).encodes_iff _ _).2 ((rangeEncode_ok_iff _ _).2 ⟨r, rest, rfl, hrest, rfl⟩),
    List.map_append⟩

end Sys2Proof.Machine
end

section
/-! The statements about the registry and the slot dispatcher. -/

namespace Sys2Proof.Machine

/-! ## Round trips -/

/-- Settles O35: `registryPairInverse_at`, for each place of the table. -/
theorem registryRoundTrip : Obligations.RegistryRoundTrip :=
  ⟨registryPairInverse_at 0, registryPairInverse_at 1, registryPairInverse_at 2, registryPairInverse_at 3,
    registryPairInverse_at 4, registryPairInverse_at 5⟩

/-- Settles O39: `slotEncode_slotDecode` is the one law, `slotDecode_of_slotEncode` the other. -/
theorem slotRoundTrip : Obligations.SlotRoundTrip := by
  constructor
  · intro l hlength
    obtain ⟨b, rfl, -⟩ := bytesOperandOf_length 18 l hlength
    exact ⟨slotDecode b, (slotDec_runsDecoder.decodes_iff b _).2 rfl,
      (slotEnc_runsEncoder.encodes_iff _ _).2 (slotEncode_slotDecode b)⟩
  · intro d l hwritten hopaque
    have hl := (slotEnc_runsEncoder.encodes_iff d l).1 hwritten
    obtain ⟨b, rfl⟩ := exists_slot_of_endsWell (slotEncode_endsWell d) hl
    refine (slotDec_runsDecoder.decodes_iff b d).2 (congrArg _ (slotDecode_of_slotEncode hl fun raw hraw => ?_))
    exact Except.ok.inj ((slotDec_runsDecoder.decodes_iff raw _).1 (hopaque raw hraw))

/-! ## The operations of the registry -/

/-- Settles O27: `dummyDecode_ok_iff` names the one slot; a registry decoder that does not accept answers
`NOT_THIS_TYPE`. -/
theorem regDecDummyAcceptsOneSlot : Obligations.RegDecDummyAcceptsOneSlot := by
  have hruns : RunsDecoder .regDecDummy dummyDecode := registryDecInstrs_runsDecoder 0
  refine ⟨fun _ => rfl, refusesOtherKinds_of_operandKind (fun _ => rfl) fun _ => rfl,
    refusesOtherLengths_of_operandLength (fun _ => rfl) (fun _ => rfl) fun _ => rfl, fun l hlength => ?_⟩
  obtain ⟨b, rfl, -⟩ := bytesOperandOf_length 18 l hlength
  refine ⟨fun hslot => (hruns.decodes_iff b _).2 ((dummyDecode_ok_iff b _).2 ⟨rfl, hslot⟩), fun hslot => ?_⟩
  refine (hruns.ends_iff b _).2 ((registryDecoder_ok_or_notThisType 0 b).resolve_left ?_)
  rintro ⟨d, hd⟩
  exact hslot ((dummyDecode_ok_iff b d).1 hd).2

/-- Settles O28: `dummyEncode_ok_iff` names the slot, `dummyEncode_other` the other variants. -/
theorem regEncDummyWritesOneSlot : Obligations.RegEncDummyWritesOneSlot := by
  have hruns : RunsEncoder .regEncDummy dummyEncode := registryEncInstrs_runsEncoder 0
  exact ⟨fun _ => rfl, refusesOtherKinds_of_operandKind (fun _ => rfl) fun _ => rfl,
    (hruns.encodes_iff _ _).2 ((dummyEncode_ok_iff _ _).2 ⟨rfl, rfl⟩),
    fun d hd => (hruns.ends_iff d _).2 (dummyEncode_other hd)⟩

/-- Settles O29: the three decoders are `stringDecode` at their tags, and `stringDecode_ok_iff` names their slots. -/
theorem stringDecodersAcceptExactlyTheirSlots : Obligations.StringDecodersAcceptExactlyTheirSlots := by
  refine ⟨⟨fun _ => rfl, ?_, ?_, stringDecoderMeets_of_runs (registryDecInstrs_runsDecoder 1)⟩,
    ⟨fun _ => rfl, ?_, ?_, stringDecoderMeets_of_runs (registryDecInstrs_runsDecoder 2)⟩,
    ⟨fun _ => rfl, ?_, ?_, stringDecoderMeets_of_runs (registryDecInstrs_runsDecoder 4)⟩⟩
  case refine_1 | refine_3 | refine_5 => exact refusesOtherKinds_of_operandKind (fun _ => rfl) fun _ => rfl
  case refine_2 | refine_4 | refine_6 =>
    exact refusesOtherLengths_of_operandLength (fun _ => rfl) (fun _ => rfl) fun _ => rfl

/-- Settles O30: the three encoders write the strings of their variants, by `EncodesStrings.encoderMeets`. -/
theorem stringEncodersWriteTheirSlotsOrRefuse : Obligations.StringEncodersWriteTheirSlotsOrRefuse := by
  refine ⟨⟨fun _ => rfl, ?_, serialEncode_encodesStrings.encoderMeets (registryEncInstrs_runsEncoder 1)⟩,
    ⟨fun _ => rfl, ?_, alnumEncode_encodesStrings.encoderMeets (registryEncInstrs_runsEncoder 2)⟩,
    ⟨fun _ => rfl, ?_, nameEncode_encodesStrings.encoderMeets (registryEncInstrs_runsEncoder 4)⟩⟩
  all_goals exact refusesOtherKinds_of_operandKind (fun _ => rfl) fun _ => rfl

/-- Settles O31: the record is `drlOf b`; byte 10 chooses its nested timing. -/
theorem regDecRangeReadsEveryField : Obligations.RegDecRangeReadsEveryField := by
  have hruns : RunsDecoder .regDecRange rangeDecode := registryDecInstrs_runsDecoder 3
  refine ⟨fun _ => rfl, refusesOtherKinds_of_operandKind (fun _ => rfl) fun _ => rfl,
    refusesOtherLengths_of_operandLength (fun _ => rfl) (fun _ => rfl) fun _ => rfl, fun b => ?_⟩
  have hheader : header b 0xFD false = true ↔ b[0] = 0 ∧ b[1] = 0 ∧ b[2] = 0 ∧ b[3] = 0xFD := by
    simp only [header_iff, Bool.false_eq_true, false_imp_iff, and_true]
  rw [← hheader]
  refine ⟨fun hother => ?_, fun hown => ?_⟩
  · rw [hruns.ends_iff, rangeDecode_eq, if_neg hother]
  · refine ⟨drlOf b, (hruns.decodes_iff b _).2 ((rangeDecode_ok_iff b _).2 ⟨hown, rfl⟩), ?_, rfl, rfl, rfl, rfl, rfl,
      rfl, rfl, rfl, rfl, plus255_eq _ _, plus255_eq _ _, plus255_eq _ _, plus255_eq _ _, ?_, ?_, ?_⟩
    · rw [drlOf, field_toNat]
      omega
    · intro hselector
      exact ⟨secondaryGtfOf b, drlTimingDecode_secondaryGtf hselector, rfl, rfl, rfl, append_byte_toNat _ _, rfl, rfl⟩
    · intro hselector
      refine ⟨cvtSupportOf b, drlTimingDecode_cvtSupport hselector, ?_⟩
      simp only [cvtSupportOf, append_toNat, field_toNat, true_and, and_true]
      exact ⟨by omega, by omega, by omega, by omega, by omega, rfl, rfl, by omega, by omega, by omega⟩
    · rintro ⟨hgtf, hcvt⟩
      refine ⟨_, drlTimingDecode_plain hgtf hcvt, ?_⟩
      rw [slot_toList]
      rfl

/-- Settles O32: the ten bytes of `drlHead_map_toNat`, then those of the nested timing. -/
theorem regEncRangeWritesEveryByteOrRefuses : Obligations.RegEncRangeWritesEveryByteOrRefuses := by
  have hruns : RunsEncoder .regEncRange rangeEncode := registryEncInstrs_runsEncoder 3
  refine ⟨fun _ => rfl, refusesOtherKinds_of_operandKind (fun _ => rfl) fun _ => rfl,
    fun d hd => (hruns.ends_iff d _).2 (rangeEncode_other hd), fun r => ⟨fun selector raw htiming hselector => ?_,
      fun tail htail => ?_⟩⟩
  · simp [hruns.ends_iff, rangeEncode, htiming, drlTimingEncode_refused hselector]
  · rw [← drlHead_map_toNat]
    refine encodesTo_regEncRange_toNat ?_
    obtain ⟨selector, raw, htiming, hgtf, hcvt, rfl⟩ | ⟨g, htiming, rfl⟩ | ⟨c, htiming, rfl⟩ := htail
    · exact ⟨_, htiming ▸ drlTimingEncode_plain hgtf hcvt raw, rfl⟩
    · exact htiming ▸ drlTimingEncode_secondaryGtf_toNat g
    · exact htiming ▸ drlTimingEncode_cvtSupport_toNat c

/-- Settles O33: `et3Decode_eq` looks at the first six bytes alone. -/
theorem regDecEt3ChecksTheMarker : Obligations.RegDecEt3ChecksTheMarker := by
  have hruns : RunsDecoder .regDecEt3 et3Decode := registryDecInstrs_runsDecoder 5
  refine ⟨fun _ => rfl, refusesOtherKinds_of_operandKind (fun _ => rfl) fun _ => rfl,
    refusesOtherLengths_of_operandLength (fun _ => rfl) (fun _ => rfl) fun _ => rfl, fun l hlength => ?_⟩
  obtain ⟨b, rfl, -⟩ := bytesOperandOf_length 18 l hlength
  refine ⟨fun e hslot => (hruns.decodes_iff b _).2 ((et3Decode_ok_iff b _).2 ⟨e, rfl, hslot⟩), fun hmarker => ?_⟩
  rw [hruns.ends_iff, et3Decode_eq, if_neg hmarker]

/-- Settles O34: `et3Encode_ok_iff` names the slot, `et3Encode_other` the other variants. -/
theorem regEncEt3WritesTheSlot : Obligations.RegEncEt3WritesTheSlot := by
  have hruns : RunsEncoder .regEncEt3 et3Encode := registryEncInstrs_runsEncoder 5
  exact ⟨fun _ => rfl, refusesOtherKinds_of_operandKind (fun _ => rfl) fun _ => rfl,
    fun e => (hruns.encodes_iff _ _).2 ((et3Encode_ok_iff _ _).2 ⟨e, rfl, rfl⟩),
    fun d hd => (hruns.ends_iff d _).2 (et3Encode_other hd)⟩

/-- Settles O36: the tag tells the decoders apart, so no order of the table matters, and the variant the encoders. -/
theorem registryVariantsAreDisjoint : Obligations.RegistryVariantsAreDisjoint := by
  refine ⟨fun j k l d e hj hk => ?_, fun ds b hds => ?_, fun d htiming hopaque => ?_⟩
  · obtain ⟨b, rfl, hb⟩ := (registryDecInstrs_runsDecoder j).exists_of_decodesTo hj
    exact registryDecoder_unique hb (((registryDecInstrs_runsDecoder k).decodes_iff b e).1 hk)
  · exact Option.ext fun d => (firstAccepting_eq_some_iff hds b d).trans (regDecode_eq_some_iff b d).symm
  · obtain ⟨k, hk⟩ := exists_registryIndex htiming hopaque
    have hown := slotEncode_of_registryIndex hk
    refine ⟨k, ?_, fun j hj => ?_⟩
    · simp only [(registryEncInstrs_runsEncoder k).encodes_iff, (registryEncInstrs_runsEncoder k).ends_iff, ← hown]
      exact (slotEncode_cases d).imp And.right And.right
    · refine ((registryEncInstrs_runsEncoder j).ends_iff d _).2 (registryEncoder_other ?_)
      rw [hk]
      exact fun hkj => hj (Option.some.inj hkj).symm

/-! ## The slot dispatcher -/

/-- Settles O37: the classes of `slotDecode`, each tested before the next. -/
theorem slotDecDispatches : Obligations.SlotDecDispatches := by
  refine ⟨fun _ => rfl, refusesOtherKinds_of_operandKind (fun _ => rfl) fun _ => rfl,
    refusesOtherLengths_of_operandLength (fun _ => rfl) (fun _ => rfl) fun _ => rfl, fun b => ?_⟩
  simp only [slotDec_runsDecoder.decodes_iff, (registryDecInstrs_runsDecoder _).decodes_iff,
    (registryDecInstrs_runsDecoder _).ends_iff, Except.ok.injEq]
  refine ⟨fun hclock => ?_, fun ⟨h0, h1, h2⟩ => slotDecode_byte2 h0 h1 h2, fun ⟨h0, h1, _⟩ => ⟨?_, ?_⟩⟩
  · have htiming := (isTiming_iff b).2 hclock
    exact ⟨dtdDecode b, slotDecode_timing htiming, exec_dtdDec_timing htiming⟩
  · exact fun k d => slotDecode_of_registryDecoder
  · exact fun hnone => slotDecode_opaque (not_isTiming h0 h1) fun k d => by simp [hnone k]

/-- Settles O38: `slotEncode` is the encoder of the descriptor's own variant, and `slotEncode_cases` what it answers. -/
theorem slotEncChoosesTheEncoder : Obligations.SlotEncChoosesTheEncoder := by
  refine ⟨fun _ => rfl, refusesOtherKinds_of_operandKind (fun _ => rfl) fun _ => rfl, fun t s => ?_, fun raw => ?_,
    fun k d s _ _ happlies => ?_, fun d => ?_⟩
  · rw [exec_eq_respond, exec_eq_respond, slotEnc_runsEncoder.answerOf_descIn, answerOf_dtdEnc]
    rfl
  · exact (slotEnc_runsEncoder.encodes_iff _ _).2 rfl
  · rw [(registryEncInstrs_runsEncoder k).ends_iff] at happlies
    rw [exec_eq_respond, exec_eq_respond, slotEnc_runsEncoder.answerOf_descIn,
      (registryEncInstrs_runsEncoder k).answerOf_descIn,
      slotEncode_of_registryIndex (registryIndex_of_registryEncoder happlies)]
  · simp only [slotEnc_runsEncoder.encodes_iff, slotEnc_runsEncoder.ends_iff]
    obtain ⟨hencodable, l, hl⟩ | ⟨hencodable, herror⟩ := slotEncode_cases d
    · have hlength : EndsWell (fun l : List Byte => l.length = 18) (.ok l) := hl ▸ slotEncode_endsWell d
      exact ⟨fun _ => ⟨l, hlength, hl⟩, by simp [hencodable]⟩
    · exact ⟨by simp [hencodable], fun _ => herror⟩

end Sys2Proof.Machine
end

section
/-! CVT_GEN: what it answers (R240, R243), and the steps both models share (R244, R245, R255), in closed form. -/

namespace Sys2Proof.Machine

/-! ## What the operation answers -/

theorem answerOf_cvtGen (a : CvtGenArgs) :
    answerOf unitConfig (.cvtGen (.cvtGenIn a)) = (cvtGenerateIn exactArithmetic .exact a).map .timing := rfl

theorem cvtAnswers_of_cvtGenerateIn {a : CvtGenArgs} {p : TimingParams}
    (h : cvtGenerateIn exactArithmetic .exact a = .ok p) : cvtAnswers a p := fun s =>
  (exec_ok_iff _ s _).2 (by rw [answerOf_cvtGen, h]; rfl)

theorem endsWith_cvtGen_of_cvtGenerateIn {a : CvtGenArgs} {e : Status}
    (h : cvtGenerateIn exactArithmetic .exact a = .error e) : endsWith .cvtGen (.cvtGenIn a) e :=
  (endsWith_iff _ _ _).2 (by rw [answerOf_cvtGen, h]; rfl)

/-- R243: the selectors that name no sub-variant. -/
theorem blankingOf_eq_none {rb : BitVec 8} (h : 3 < rb.toNat) : blankingOf rb = none := by
  unfold blankingOf
  split
  case h_5 => rfl
  all_goals omega

/-- R38: the three selectors of reduced blanking. -/
theorem reducedSelector_cases {rb : BitVec 8} (hlow : 1 ≤ rb.toNat) (hhigh : rb.toNat ≤ 3) :
    rb = 1 ∨ rb = 2 ∨ rb = 3 := by
  bv_omega

theorem cvtGenerateIn_usageError {a : CvtGenArgs} (h : 3 < a.rb.toNat) :
    cvtGenerateIn exactArithmetic .exact a = .error .usageError := by
  simp [cvtGenerateIn, blankingOf_eq_none h]

/-- R240, R243: what is generated for a selector that names a model. -/
theorem cvtGenerateIn_eq {a : CvtGenArgs} {blanking : Blanking} (hrb : blankingOf a.rb = some blanking) :
    cvtGenerateIn exactArithmetic .exact a =
      if a.refresh ≤ 0 then .error .domainError
      else (cvtTiming exactArithmetic blanking (cvtSetup exactArithmetic a)
        (cvtVSync exactArithmetic .exact blanking a.vActive (cvtSetup exactArithmetic a).hRnd)).map
          (cvtOutputs exactArithmetic a (cvtSetup exactArithmetic a)) := by
  simp only [cvtGenerateIn, hrb, exact_le, exact_lit, decide_eq_true_eq, raise_eq]
  split_ifs
  · rfl
  · cases cvtTiming exactArithmetic blanking (cvtSetup exactArithmetic a)
      (cvtVSync exactArithmetic .exact blanking a.vActive (cvtSetup exactArithmetic a).hRnd) <;> rfl

/-! ## The shared steps (R244, R245, R255) -/

theorem cvtSetup_vFieldRate (a : CvtGenArgs) :
    (cvtSetup exactArithmetic a).vFieldRate = fieldRate a.interlaced a.refresh := rfl

theorem cvtLines_eq (u : CvtSetup ℚ) : cvtLines exactArithmetic u = u.vRnd + 2 * u.top := rfl

theorem cvtLines_nonneg (a : CvtGenArgs) : 0 ≤ cvtLines exactArithmetic (cvtSetup exactArithmetic a) := by
  have hvRnd := cvtSetup_vRnd_nonneg a
  have htop := cvtSetup_top_nonneg a
  rw [cvtLines_eq]
  positivity

theorem fieldRate_pos {interlaced : Bool} {refresh : ℚ} (h : 0 < refresh) : 0 < fieldRate interlaced refresh := by
  unfold fieldRate
  split_ifs <;> positivity

theorem halfLine_nonneg (interlaced : Bool) : 0 ≤ halfLine interlaced := by
  unfold halfLine
  split_ifs <;> norm_num

/-- R11: the floor of a quotient of natural numbers is their quotient. -/
theorem floorQ_natCast_div_natCast (m n : ℕ) : floorQ ((m : ℚ) / n) = ((m / n : ℕ) : ℚ) := by
  unfold floorQ
  rw [Rat.floor_natCast_div_natCast]
  rfl

/-- `floorQ_eq_natCast`, for floors as the closed forms write them. -/
theorem floor_eq_natCast {x : ℚ} (h : 0 ≤ x) : ∃ n : ℕ, ((⌊x⌋ : ℤ) : ℚ) = n :=
  floorQ_eq_natCast h

theorem cvtSetup_hRnd_eq (a : CvtGenArgs) :
    (cvtSetup exactArithmetic a).hRnd = 8 * ((a.hActive / 8 : ℕ) : ℚ) := by
  have hcells : floorQ ((a.hActive : ℚ) / 8) = ((a.hActive / 8 : ℕ) : ℚ) :=
    floorQ_natCast_div_natCast a.hActive 8
  rw [cvtSetup_hRnd, cvtCellGran, hcells, mul_comm]

theorem cvtSetup_left_eq (a : CvtGenArgs) :
    (cvtSetup exactArithmetic a).left =
      if a.margins then 8 * ((⌊(cvtSetup exactArithmetic a).hRnd * (9 / 5) / 800⌋ : ℤ) : ℚ) else 0 := by
  rw [cvtSetup_left, cvtMarginPer, cvtCellGran, div_div, mul_comm _ (8 : ℚ)]
  norm_num [floorQ]

theorem cvtSetup_vRnd_eq (a : CvtGenArgs) :
    (cvtSetup exactArithmetic a).vRnd =
      if a.interlaced then ((a.vActive / 2 : ℕ) : ℚ) else (a.vActive : ℚ) := by
  have hfield : floorQ ((a.vActive : ℚ) / 2) = ((a.vActive / 2 : ℕ) : ℚ) :=
    floorQ_natCast_div_natCast a.vActive 2
  rw [cvtSetup_vRnd, hfield]

theorem cvtSetup_top_eq (a : CvtGenArgs) :
    (cvtSetup exactArithmetic a).top =
      if a.margins then ((⌊9 / 500 * (cvtSetup exactArithmetic a).vRnd⌋ : ℤ) : ℚ) else 0 := by
  rw [cvtSetup_top, cvtMarginPer]
  norm_num [floorQ]

/-- R245: the table read in its order is the chain of tests. -/
theorem firstAspectWidth_eq (vActive : Nat) (hRnd : ℚ) :
    firstAspectWidth exactArithmetic .exact vActive hRnd aspectWidths = cvtSyncByAspect vActive hRnd := by
  simp only [firstAspectWidth, aspectWidths, aspectMatches, cvtSyncByAspect, exact_eq, exact_mul, exact_lit,
    decide_eq_true_eq]

theorem cvtSyncByAspect_pos (vActive : Nat) (hRnd : ℚ) : 0 < cvtSyncByAspect vActive hRnd :=
  firstAspectWidth_eq vActive hRnd ▸ firstAspectWidth_pos .exact vActive hRnd aspectWidths_pos

/-- R244, R252, R255: the fields that both models share. -/
theorem cvtOutputs_shared {a : CvtGenArgs} {t : CvtTiming ℚ} (h : CvtTimingSound (cvtSetup exactArithmetic a) t) :
    cvtSharedFields a (cvtOutputs exactArithmetic a (cvtSetup exactArithmetic a) t) :=
  ⟨cvtSetup_hRnd_eq a, cvtSetup_left_eq a, cvtSetup_vRnd_eq a, cvtSetup_top_eq a, h.hTotal_eq, rfl, h.vTotal_eq,
    rfl, rfl, rfl, rfl⟩

/-- R240, R255: the answer when the chosen model gives a timing. -/
theorem cvtAnswers_of_cvtTiming {a : CvtGenArgs} {blanking : Blanking} {vSync : ℚ} {t : CvtTiming ℚ}
    (hrb : blankingOf a.rb = some blanking) (hrefresh : 0 < a.refresh)
    (hvSync : cvtVSync exactArithmetic .exact blanking a.vActive (cvtSetup exactArithmetic a).hRnd = vSync)
    (ht : cvtTiming exactArithmetic blanking (cvtSetup exactArithmetic a) vSync = .ok t) :
    cvtAnswers a (cvtOutputs exactArithmetic a (cvtSetup exactArithmetic a) t) ∧
      cvtSharedFields a (cvtOutputs exactArithmetic a (cvtSetup exactArithmetic a) t) := by
  subst hvSync
  constructor
  · apply cvtAnswers_of_cvtGenerateIn
    rw [cvtGenerateIn_eq hrb, if_neg hrefresh.not_ge, ht]
    rfl
  · have hsound := cvtTiming_sound .exact blanking a
    rw [exact_lit, ht] at hsound
    exact cvtOutputs_shared hsound

/-- R246, R253: the time a field leaves after `c` µs is positive below the field rate `1000000 / c`. -/
theorem fieldTime_pos_iff {rate : ℚ} (hrate : 0 < rate) (c : ℚ) : 0 < 1000000 / rate - c ↔ c * rate < 1000000 := by
  rw [sub_pos, lt_div_iff₀ hrate]

end Sys2Proof.Machine
end

section
/-! CVT_GEN with standard blanking (R246 to R252): each step in closed form, and when there is a timing. -/

namespace Sys2Proof.Machine

theorem cvtPeriodStandard_eq (a : CvtGenArgs) :
    cvtPeriodStandard exactArithmetic (cvtSetup exactArithmetic a) =
      (1000000 / fieldRate a.interlaced a.refresh - 550) /
        (cvtLines exactArithmetic (cvtSetup exactArithmetic a) + 3 + halfLine a.interlaced) := rfl

theorem cvtVSyncBp_eq (vSync period : ℚ) :
    cvtVSyncBp exactArithmetic vSync period = max (((⌊550 / period⌋ : ℤ) : ℚ) + 1) (vSync + 6) := by
  simp only [cvtVSyncBp, exact_add, exact_div, exact_floor, exact_lit, exact_lt, decide_eq_true_eq, max_def_lt]
  rfl

theorem cvtDuty_eq (period : ℚ) : cvtDuty exactArithmetic period = max 20 (30 - 300 * period / 1000) := by
  simp only [cvtDuty, exact_sub, exact_div, exact_mul, exact_lit, exact_lt, decide_eq_true_eq, max_comm (20 : ℚ),
    max_def_lt]
  rfl

theorem cvtHBlank_eq (tap duty : ℚ) :
    cvtHBlank exactArithmetic tap duty = 16 * ((⌊tap * duty / (100 - duty) / 16⌋ : ℤ) : ℚ) := by
  simp only [cvtHBlank, exact_mul, exact_floor, exact_div, exact_sub, exact_lit, cvtCellGran, floorQ]
  norm_num [mul_comm]

theorem cvtHSync_eq (hTotal : ℚ) : cvtHSync exactArithmetic hTotal = 8 * ((⌊hTotal / 100⌋ : ℤ) : ℚ) := by
  have hcells : 8 / 100 * hTotal / 8 = hTotal / 100 := by ring
  simp only [cvtHSync, exact_mul, exact_floor, exact_div, exact_lit, cvtCellGran, cvtHSyncPer, floorQ, hcells]
  ring

theorem cvtStandardClock_eq (hTotal period : ℚ) :
    cvtStandardClock exactArithmetic hTotal period = ((⌊4 * hTotal / period⌋ : ℤ) : ℚ) / 4 := by
  have hsteps : hTotal / period / (1 / 4) = 4 * hTotal / period := by ring
  simp only [cvtStandardClock, exact_mul, exact_floor, exact_div, exact_lit, cvtClockStep, floorQ, hsteps]
  ring

/-- The timing of R246 to R252; `cvtStandard_eq` says when the model gives it. -/
def cvtStandardTiming (u : CvtSetup ℚ) (vSync : ℚ) : CvtTiming ℚ :=
  let period := cvtPeriodStandard exactArithmetic u
  let hBlank := cvtHBlank exactArithmetic u.tap (cvtDuty exactArithmetic period)
  let vSyncBp := cvtVSyncBp exactArithmetic vSync period
  { hBlank := hBlank
    hSync := cvtHSync exactArithmetic (u.tap + hBlank)
    hFrontPorch := hBlank - cvtHSync exactArithmetic (u.tap + hBlank) - hBlank / 2
    hBackPorch := hBlank / 2
    hTotal := u.tap + hBlank
    pixelClock := cvtStandardClock exactArithmetic (u.tap + hBlank) period
    vFrontPorch := 3
    vSync := vSync
    vBackPorch := vSyncBp - vSync
    vTotal := cvtLines exactArithmetic u + vSyncBp + u.il + 3
    hSyncPositive := false
    vSyncPositive := true }

theorem cvtStandard_eq (u : CvtSetup ℚ) (vSync : ℚ) :
    cvtStandard exactArithmetic u vSync =
      if cvtPeriodStandard exactArithmetic u ≤ 0 ∨ (cvtStandardTiming u vSync).hTotal = 0 then .error .domainError
      else .ok (cvtStandardTiming u vSync) := by
  simp only [cvtStandard, raise_eq, exact_le, exact_eq, exact_lit, decide_eq_true_eq, ite_or]
  rfl

/-- R246: the denominator of the period estimate is at least 3, so its sign is that of the numerator. -/
theorem cvtPeriodStandard_pos_iff {a : CvtGenArgs} (hrefresh : 0 < a.refresh) :
    0 < cvtPeriodStandard exactArithmetic (cvtSetup exactArithmetic a) ↔
      550 * fieldRate a.interlaced a.refresh < 1000000 := by
  have hlines := cvtLines_nonneg a
  have hhalf := halfLine_nonneg a.interlaced
  rw [cvtPeriodStandard_eq, div_pos_iff_of_pos_right (by positivity),
    fieldTime_pos_iff (fieldRate_pos hrefresh)]

/-- R248: the duty cycle lies between its floor and `C_PRIME`. -/
theorem cvtDuty_bounds {period : ℚ} (h : 0 < period) :
    20 ≤ cvtDuty exactArithmetic period ∧ cvtDuty exactArithmetic period < 30 := by
  rw [cvtDuty_eq]
  exact ⟨le_max_left _ _, max_lt (by norm_num) (by linarith)⟩

/-- R248, R256: the blank is a whole number of double cells. -/
theorem cvtHBlank_eq_natCast {tap duty : ℚ} (htap : 0 ≤ tap) (hlow : 20 ≤ duty) (hhigh : duty < 30) :
    ∃ n : ℕ, cvtHBlank exactArithmetic tap duty = 16 * n := by
  have hactive : 0 < 100 - duty := by linarith
  obtain ⟨n, hn⟩ := floor_eq_natCast (x := tap * duty / (100 - duty) / 16) (by positivity)
  exact ⟨n, by rw [cvtHBlank_eq, hn]⟩

theorem cvtSetup_hRnd_eq_zero_iff (a : CvtGenArgs) : (cvtSetup exactArithmetic a).hRnd = 0 ↔ a.hActive < 8 := by
  rw [cvtSetup_hRnd_eq]
  simp

/-- R249: the total is zero exactly when no cell is active, because the blank is in proportion to the active pixels. -/
theorem cvtStandardTiming_hTotal_eq_zero_iff {a : CvtGenArgs} (vSync : ℚ)
    (hperiod : 0 < cvtPeriodStandard exactArithmetic (cvtSetup exactArithmetic a)) :
    (cvtStandardTiming (cvtSetup exactArithmetic a) vSync).hTotal = 0 ↔ a.hActive < 8 := by
  obtain ⟨hlow, hhigh⟩ := cvtDuty_bounds hperiod
  obtain ⟨n, hblank⟩ := cvtHBlank_eq_natCast (cvtSetup_tap_nonneg a) hlow hhigh
  have hwidth := cvtSetup_hRnd_nonneg a
  have hborder := cvtSetup_left_nonneg a
  have htap := cvtSetup_tap a
  rw [← cvtSetup_hRnd_eq_zero_iff]
  constructor
  · intro htotal
    have hcells : (0 : ℚ) ≤ n := n.cast_nonneg
    simp only [cvtStandardTiming, hblank] at htotal
    linarith
  · intro hzero
    have hleft : (cvtSetup exactArithmetic a).left = 0 := by simp [cvtSetup_left_eq, hzero]
    simp [cvtStandardTiming, htap, hleft, hzero, cvtHBlank_eq]

/-- R246, R249: when standard blanking has a timing, in terms of the operands. -/
theorem cvtStandard_setup {a : CvtGenArgs} (hrefresh : 0 < a.refresh) (vSync : ℚ) :
    cvtStandard exactArithmetic (cvtSetup exactArithmetic a) vSync =
      if 550 * fieldRate a.interlaced a.refresh < 1000000 ∧ 8 ≤ a.hActive then
        .ok (cvtStandardTiming (cvtSetup exactArithmetic a) vSync)
      else .error .domainError := by
  have hrefused : cvtPeriodStandard exactArithmetic (cvtSetup exactArithmetic a) ≤ 0 ∨
      (cvtStandardTiming (cvtSetup exactArithmetic a) vSync).hTotal = 0 ↔
      ¬ (550 * fieldRate a.interlaced a.refresh < 1000000 ∧ 8 ≤ a.hActive) := by
    rw [← cvtPeriodStandard_pos_iff hrefresh, not_and_or, not_lt, not_le]
    exact or_congr_right' fun hperiod => cvtStandardTiming_hTotal_eq_zero_iff vSync (not_le.1 hperiod)
  simp only [cvtStandard_eq, hrefused, ite_not]

end Sys2Proof.Machine
end

section
/-! CVT_GEN with reduced blanking (R252 to R254): each step in closed form, and when there is a timing. -/

namespace Sys2Proof.Machine

/-- `H_PERIOD_EST` of R253. -/
def cvtPeriodReduced (u : CvtSetup ℚ) : ℚ :=
  (1000000 / u.vFieldRate - 460) / cvtLines exactArithmetic u

theorem cvtActVbi_eq (minVbi period : ℚ) :
    cvtActVbi exactArithmetic minVbi period = max (((⌊460 / period⌋ : ℤ) : ℚ) + 1) minVbi := by
  simp only [cvtActVbi, exact_add, exact_div, exact_floor, exact_lit, exact_lt, decide_eq_true_eq, max_def_lt]
  rfl

theorem cvtReducedClock_eq (k : RbConstants) (rate vTotal hTotal : ℚ) :
    cvtReducedClock exactArithmetic k rate vTotal hTotal =
      k.clockStep * ((⌊rate * vTotal * hTotal / 1000000 * k.factor / k.clockStep⌋ : ℤ) : ℚ) := rfl

/-- R242, R254: v1 counts in steps of 1/4 MHz. -/
theorem cvtReducedClock_v1 (rate vTotal hTotal : ℚ) :
    cvtReducedClock exactArithmetic rbConstantsV1 rate vTotal hTotal =
      ((⌊rate * vTotal * hTotal / 1000000 * 4⌋ : ℤ) : ℚ) / 4 := by
  have hsteps : rate * vTotal * hTotal / 1000000 * 1 / (1 / 4) = rate * vTotal * hTotal / 1000000 * 4 := by ring
  rw [cvtReducedClock_eq, rbConstantsV1, hsteps]
  ring

/-- R242, R254: v2 counts in steps of 1/1000 MHz. -/
theorem cvtReducedClock_v2 (rate vTotal hTotal : ℚ) :
    cvtReducedClock exactArithmetic rbConstantsV2 rate vTotal hTotal =
      ((⌊rate * vTotal * hTotal / 1000⌋ : ℤ) : ℚ) / 1000 := by
  have hsteps : rate * vTotal * hTotal / 1000000 * 1 / (1 / 1000) = rate * vTotal * hTotal / 1000 := by ring
  rw [cvtReducedClock_eq, rbConstantsV2, hsteps]
  ring

/-- R242, R254: v2-video counts in the same steps, and its factor of 1000/1001 leaves a divisor of 1001. -/
theorem cvtReducedClock_v2video (rate vTotal hTotal : ℚ) :
    cvtReducedClock exactArithmetic rbConstantsV2video rate vTotal hTotal =
      ((⌊rate * vTotal * hTotal / 1001⌋ : ℤ) : ℚ) / 1000 := by
  have hsteps : rate * vTotal * hTotal / 1000000 * (1000 / 1001) / (1 / 1000) = rate * vTotal * hTotal / 1001 := by
    ring
  rw [cvtReducedClock_eq, rbConstantsV2video, hsteps]
  ring

/-- The timing of R252 to R254; `cvtReduced_eq` says when the model gives it. -/
def cvtReducedTiming (u : CvtSetup ℚ) (vSync : ℚ) (k : RbConstants) (minVbi : ℚ) (frontPorch backPorch : ℚ → ℚ) :
    CvtTiming ℚ :=
  let actVbi := cvtActVbi exactArithmetic minVbi (cvtPeriodReduced u)
  let vTotal := actVbi + u.vRnd + 2 * u.top + u.il
  { hBlank := k.hBlank
    hSync := k.hSync
    hFrontPorch := k.hFporch
    hBackPorch := k.hBporch
    hTotal := u.tap + k.hBlank
    pixelClock := cvtReducedClock exactArithmetic k u.vFieldRate vTotal (u.tap + k.hBlank)
    vFrontPorch := frontPorch actVbi
    vSync := vSync
    vBackPorch := backPorch actVbi
    vTotal := vTotal
    hSyncPositive := true
    vSyncPositive := false }

theorem cvtReduced_eq (u : CvtSetup ℚ) (vSync : ℚ) (k : RbConstants) (minVbi : ℚ) (frontPorch backPorch : ℚ → ℚ) :
    cvtReduced exactArithmetic u vSync k minVbi frontPorch backPorch =
      if cvtLines exactArithmetic u = 0 ∨ cvtPeriodReduced u ≤ 0 then .error .domainError
      else .ok (cvtReducedTiming u vSync k minVbi frontPorch backPorch) := by
  simp only [cvtReduced, raise_eq, exact_le, exact_eq, exact_lit, decide_eq_true_eq, ite_or]
  rfl

/-- R244: when a field has a line. -/
theorem cvtLines_pos_iff (a : CvtGenArgs) :
    0 < cvtLines exactArithmetic (cvtSetup exactArithmetic a) ↔
      if a.interlaced then 2 ≤ a.vActive else 1 ≤ a.vActive := by
  have hactive : 0 < (cvtSetup exactArithmetic a).vRnd ↔ if a.interlaced then 2 ≤ a.vActive else 1 ≤ a.vActive := by
    rw [cvtSetup_vRnd_eq]
    split_ifs
    · simp [Nat.div_pos_iff]
    · simp [Nat.one_le_iff_ne_zero, Nat.pos_iff_ne_zero]
  rw [cvtLines_eq, ← hactive]
  have htop := cvtSetup_top_nonneg a
  refine ⟨fun hlines => ?_, fun hvRnd => by positivity⟩
  by_contra hzero
  have hvRnd : (cvtSetup exactArithmetic a).vRnd = 0 := le_antisymm (not_lt.1 hzero) (cvtSetup_vRnd_nonneg a)
  simp [cvtSetup_top_eq, hvRnd] at hlines

/-- R253: when reduced blanking has a timing, in terms of the operands. -/
theorem cvtReduced_setup {a : CvtGenArgs} (hrefresh : 0 < a.refresh) (vSync : ℚ) (k : RbConstants) (minVbi : ℚ)
    (frontPorch backPorch : ℚ → ℚ) :
    cvtReduced exactArithmetic (cvtSetup exactArithmetic a) vSync k minVbi frontPorch backPorch =
      if 460 * fieldRate a.interlaced a.refresh < 1000000 ∧ (if a.interlaced then 2 ≤ a.vActive else 1 ≤ a.vActive) then
        .ok (cvtReducedTiming (cvtSetup exactArithmetic a) vSync k minVbi frontPorch backPorch)
      else .error .domainError := by
  have hrefused : cvtLines exactArithmetic (cvtSetup exactArithmetic a) = 0 ∨
      cvtPeriodReduced (cvtSetup exactArithmetic a) ≤ 0 ↔
      ¬ (460 * fieldRate a.interlaced a.refresh < 1000000 ∧
        (if a.interlaced then 2 ≤ a.vActive else 1 ≤ a.vActive)) := by
    rw [← cvtLines_pos_iff, ← fieldTime_pos_iff (fieldRate_pos hrefresh), and_comm, not_and_or]
    obtain hzero | hpos := (cvtLines_nonneg a).eq_or_lt
    · simp [← hzero]
    · simp [hpos, hpos.ne', cvtPeriodReduced, cvtSetup_vFieldRate, ← not_lt, div_pos_iff_of_pos_right hpos]
  simp only [cvtReduced_eq, hrefused, ite_not]

theorem cvtTiming_v1 (u : CvtSetup ℚ) (vSync : ℚ) :
    cvtTiming exactArithmetic .v1 u vSync =
      cvtReduced exactArithmetic u vSync rbConstantsV1 (3 + vSync + 6) (fun _ => 3) (fun vbi => vbi - 3 - vSync) := rfl

theorem cvtTiming_v2 (u : CvtSetup ℚ) (vSync : ℚ) :
    cvtTiming exactArithmetic .v2 u vSync =
      cvtReduced exactArithmetic u vSync rbConstantsV2 15 (fun vbi => vbi - 8 - 6) (fun _ => 6) := rfl

theorem cvtTiming_v2video (u : CvtSetup ℚ) (vSync : ℚ) :
    cvtTiming exactArithmetic .v2video u vSync =
      cvtReduced exactArithmetic u vSync rbConstantsV2video 15 (fun vbi => vbi - 8 - 6) (fun _ => 6) := rfl

/-- R240: the three sub-variants are settings of the one reduced model. -/
theorem exists_cvtTiming_eq_cvtReduced {blanking : Blanking} (h : blanking ≠ .off) (u : CvtSetup ℚ) (vSync : ℚ) :
    ∃ k minVbi frontPorch backPorch, cvtTiming exactArithmetic blanking u vSync =
      cvtReduced exactArithmetic u vSync k minVbi frontPorch backPorch := by
  cases blanking with
  | off => exact absurd rfl h
  | v1 => exact ⟨_, _, _, _, cvtTiming_v1 u vSync⟩
  | v2 => exact ⟨_, _, _, _, cvtTiming_v2 u vSync⟩
  | v2video => exact ⟨_, _, _, _, cvtTiming_v2video u vSync⟩

/-- R38: a selector of reduced blanking names one of the sub-variants. -/
theorem exists_blankingOf_reduced {rb : BitVec 8} (hlow : 1 ≤ rb.toNat) (hhigh : rb.toNat ≤ 3) :
    ∃ blanking ≠ .off, blankingOf rb = some blanking := by
  obtain rfl | rfl | rfl := reducedSelector_cases hlow hhigh
  · exact ⟨.v1, by decide, rfl⟩
  · exact ⟨.v2, by decide, rfl⟩
  · exact ⟨.v2video, by decide, rfl⟩

/-- R253, R255: the blank lines of reduced blanking are `ACT_VBI`, which the sync and the porches share out. -/
theorem cvtReducedTiming_vBlank (a : CvtGenArgs) {vSync : ℚ} {k : RbConstants} {minVbi : ℚ}
    {frontPorch backPorch : ℚ → ℚ} (hporches : ∀ vbi, frontPorch vbi + vSync + backPorch vbi = vbi) :
    (cvtOutputs exactArithmetic a (cvtSetup exactArithmetic a)
      (cvtReducedTiming (cvtSetup exactArithmetic a) vSync k minVbi frontPorch backPorch)).vBlank =
    max (((⌊460 / cvtPeriodReduced (cvtSetup exactArithmetic a)⌋ : ℤ) : ℚ) + 1) minVbi :=
  (hporches _).trans (cvtActVbi_eq _ _)

end Sys2Proof.Machine
end

section
/-! The statements about CVT_GEN: the closed forms of every step, and what follows from them. -/

namespace Sys2Proof.Machine

/-! ## Outside the domain -/

/-- R243, R246, R249, R253: a rate not above 0, or a model that has no timing. -/
theorem endsWith_cvtGen_domainError {a : CvtGenArgs} {blanking : Blanking} (hrb : blankingOf a.rb = some blanking)
    (h : 0 < a.refresh → ∀ vSync,
      cvtTiming exactArithmetic blanking (cvtSetup exactArithmetic a) vSync = .error .domainError) :
    endsWith .cvtGen (.cvtGenIn a) .domainError := by
  apply endsWith_cvtGen_of_cvtGenerateIn
  rw [cvtGenerateIn_eq hrb]
  split_ifs with hrefresh
  · rfl
  · rw [h (not_le.1 hrefresh)]
    rfl

/-- Settles O40: the selector is checked first; the rest is `cvtStandard_setup` and `cvtReduced_setup`. -/
theorem cvtGenRefusesOutsideItsDomain : Obligations.CvtGenRefusesOutsideItsDomain := by
  refine ⟨fun _ => rfl, refusesOtherKinds_of_operandKind (fun _ => rfl) fun _ => rfl, fun a => ⟨fun hrb => ?_,
    fun hrb hout => ?_, fun hlow hhigh hout => ?_⟩⟩
  · exact endsWith_cvtGen_of_cvtGenerateIn (cvtGenerateIn_usageError hrb)
  · refine endsWith_cvtGen_domainError (blanking := .off) (by rw [hrb]; rfl) fun hrefresh vSync => ?_
    rw [cvtTiming, cvtStandard_setup hrefresh, if_neg fun hin => hout ⟨hrefresh, hin⟩]
  · obtain ⟨blanking, hreduced, hrb⟩ := exists_blankingOf_reduced hlow hhigh
    refine endsWith_cvtGen_domainError hrb fun hrefresh vSync => ?_
    obtain ⟨k, minVbi, frontPorch, backPorch, hk⟩ :=
      exists_cvtTiming_eq_cvtReduced hreduced (cvtSetup exactArithmetic a) vSync
    rw [hk, cvtReduced_setup hrefresh, if_neg fun hin => hout ⟨hrefresh, hin⟩]

/-! ## Inside the domain -/

/-- Settles O41: the answer is `cvtStandardTiming` with the outputs of R255; each of its steps has its closed form. -/
theorem cvtStandardBlankingFollowsTheFormula : Obligations.CvtStandardBlankingFollowsTheFormula := by
  intro a hrb ⟨hrefresh, hin⟩
  have hvSync : cvtVSync exactArithmetic .exact .off a.vActive (cvtSetup exactArithmetic a).hRnd =
      cvtSyncByAspect a.vActive (cvtSetup exactArithmetic a).hRnd := firstAspectWidth_eq _ _
  obtain ⟨hanswers, hshared⟩ := cvtAnswers_of_cvtTiming (blanking := .off) (by rw [hrb]; rfl) hrefresh hvSync
    (by rw [cvtTiming, cvtStandard_setup hrefresh, if_pos hin])
  refine ⟨_, hanswers, hshared, rfl, ?_, rfl, ?_, ?_, rfl, ?_, ?_, rfl, rfl⟩
  · exact (add_sub_cancel _ _).trans (cvtVSyncBp_eq _ _)
  · exact (cvtHBlank_eq _ _).trans (by rw [cvtDuty_eq]; rfl)
  · exact cvtHSync_eq _
  · exact (sub_right_comm _ _ _).trans (congrArg (· - _) (sub_half _))
  · exact cvtStandardClock_eq _ _

/-- Settles O42: the answer is `cvtReducedTiming` at the setting of the selector, with the outputs of R255. -/
theorem cvtReducedBlankingFollowsTheFormula : Obligations.CvtReducedBlankingFollowsTheFormula := by
  intro a hlow hhigh ⟨hrefresh, hin⟩
  obtain hrb | hrb | hrb := reducedSelector_cases hlow hhigh
  · have hvSync : cvtVSync exactArithmetic .exact .v1 a.vActive (cvtSetup exactArithmetic a).hRnd =
        cvtSyncByAspect a.vActive (cvtSetup exactArithmetic a).hRnd := firstAspectWidth_eq _ _
    obtain ⟨hanswers, hshared⟩ := cvtAnswers_of_cvtTiming (blanking := .v1) (by rw [hrb]; rfl) hrefresh hvSync
      (by rw [cvtTiming_v1, cvtReduced_setup hrefresh, if_pos hin])
    refine ⟨_, hanswers, hshared, rfl, rfl, rfl, fun _ => ⟨rfl, rfl, rfl, rfl, rfl, ?_, ?_⟩, by simp [hrb],
      by simp [hrb], by simp [hrb]⟩
    · exact cvtReducedTiming_vBlank a fun vbi => by ring
    · exact cvtReducedClock_v1 _ _ _
  · obtain ⟨hanswers, hshared⟩ := cvtAnswers_of_cvtTiming (blanking := .v2) (by rw [hrb]; rfl) hrefresh rfl
      (by rw [cvtTiming_v2, cvtReduced_setup hrefresh, if_pos hin])
    refine ⟨_, hanswers, hshared, rfl, rfl, rfl, by simp [hrb], fun _ => ⟨rfl, rfl, rfl, rfl, rfl, ?_⟩, fun _ => ?_,
      by simp [hrb]⟩
    · exact cvtReducedTiming_vBlank a fun vbi => by simp only [cvtVSync]; ring
    · exact cvtReducedClock_v2 _ _ _
  · obtain ⟨hanswers, hshared⟩ := cvtAnswers_of_cvtTiming (blanking := .v2video) (by rw [hrb]; rfl) hrefresh rfl
      (by rw [cvtTiming_v2video, cvtReduced_setup hrefresh, if_pos hin])
    refine ⟨_, hanswers, hshared, rfl, rfl, rfl, by simp [hrb], fun _ => ⟨rfl, rfl, rfl, rfl, rfl, ?_⟩, by simp [hrb],
      fun _ => ?_⟩
    · exact cvtReducedTiming_vBlank a fun vbi => by simp only [cvtVSync]; ring
    · exact cvtReducedClock_v2video _ _ _

/-! ## The invariants of R256, from the closed forms -/

section
variable {a : CvtGenArgs} {p : TimingParams} (h : cvtSharedFields a p)
include h

/-- R244: the width is rounded down to a cell. -/
theorem cvtSharedFields.hActive_bounds :
    (∃ n : ℕ, p.hActive = 8 * n) ∧ p.hActive ≤ a.hActive ∧ (a.hActive : ℚ) < p.hActive + 8 := by
  obtain ⟨hwidth, -⟩ := h
  refine ⟨⟨_, hwidth⟩, ?_, ?_⟩
  all_goals
    rw [hwidth]
    norm_cast
    omega

theorem cvtSharedFields.width_nonneg : 0 ≤ p.hActive + 2 * p.hBorder := by
  obtain ⟨hwidth, hborder, -⟩ := h
  have hactive : 0 ≤ p.hActive := by rw [hwidth]; positivity
  have hmargin : 0 ≤ p.hBorder := by
    rw [hborder]
    split_ifs <;> positivity
  positivity

theorem cvtSharedFields.lines_nonneg : 0 ≤ p.vActive + 2 * p.vBorder := by
  obtain ⟨-, -, hlines, hborder, -⟩ := h
  have hactive : 0 ≤ p.vActive := by
    rw [hlines]
    split_ifs <;> positivity
  have hmargin : 0 ≤ p.vBorder := by
    rw [hborder]
    split_ifs <;> positivity
  positivity

theorem cvtSharedFields.vBlank_eq : p.vBlank = p.vFrontPorch + p.vSync + p.vBackPorch := by
  obtain ⟨-, -, -, -, -, hblank, -⟩ := h
  exact hblank

theorem cvtSharedFields.hTotal_nonneg (hblank : 0 ≤ p.hBlank) : 0 ≤ p.hTotal := by
  have hwidth := h.width_nonneg
  obtain ⟨-, -, -, -, htotal, -⟩ := h
  linarith

theorem cvtSharedFields.vTotal_nonneg (hblank : 0 ≤ p.vBlank) : 0 ≤ p.vTotal := by
  have hlines := h.lines_nonneg
  have hhalf := halfLine_nonneg a.interlaced
  obtain ⟨-, -, -, -, -, -, htotal, -⟩ := h
  linarith

end

/-- R249, R254: a clock rounded down to its steps is a natural number of them. -/
theorem exists_natCast_div_of_floor {x clock step : ℚ} (hx : 0 ≤ x) (h : clock = ((⌊x⌋ : ℤ) : ℚ) / step) :
    ∃ n : ℕ, clock = n / step := by
  obtain ⟨n, hn⟩ := floor_eq_natCast hx
  exact ⟨n, hn ▸ h⟩

theorem exists_cvtStandard_timing {a : CvtGenArgs} (hrb : a.rb = 0) (hin : cvtStandardInDomain a) :
    ∃ p, cvtAnswers a p ∧ cvtSharedFields a p ∧ (∃ n : ℕ, p.hBlank = 16 * n) ∧ (∃ n : ℕ, p.pixelClock = n / 4) ∧
      6 ≤ p.vBackPorch ∧ p.hSyncPositive = false ∧ p.vSyncPositive = true := by
  obtain ⟨p, hanswers, hshared, -, hvBlank, -, hhBlank, -, -, -, hclock, hhPositive, hvPositive⟩ :=
    cvtStandardBlankingFollowsTheFormula a hrb hin
  obtain ⟨hrefresh, hrate, -⟩ := hin
  have hperiod : 0 < (1000000 / fieldRate a.interlaced a.refresh - 550) /
      (p.vActive + 2 * p.vBorder + 3 + halfLine a.interlaced) := by
    have hlines := hshared.lines_nonneg
    have hhalf := halfLine_nonneg a.interlaced
    exact div_pos ((fieldTime_pos_iff (fieldRate_pos hrefresh) 550).2 hrate) (by positivity)
  obtain ⟨hdutyLow, hdutyHigh⟩ := cvtDuty_bounds hperiod
  rw [← cvtDuty_eq, ← cvtHBlank_eq] at hhBlank
  obtain ⟨n, hn⟩ := cvtHBlank_eq_natCast hshared.width_nonneg hdutyLow hdutyHigh
  have hhTotal := hshared.hTotal_nonneg (by rw [hhBlank, hn]; positivity)
  have hleast := hvBlank ▸ le_max_right _ (p.vSync + 6)
  exact ⟨p, hanswers, hshared, ⟨n, hhBlank.trans hn⟩, exists_natCast_div_of_floor (by positivity) hclock,
    by linarith, hhPositive, hvPositive⟩

theorem exists_cvtV1_timing {a : CvtGenArgs} (hrb : a.rb = 1) (hin : cvtReducedInDomain a) :
    ∃ p, cvtAnswers a p ∧ cvtSharedFields a p ∧ p.hBlank = 160 ∧ (∃ n : ℕ, p.pixelClock = n / 4) ∧
      6 ≤ p.vBackPorch ∧ p.hSyncPositive = true ∧ p.vSyncPositive = false := by
  obtain ⟨p, hanswers, hshared, hhPositive, hvPositive, -, hv1, -⟩ :=
    cvtReducedBlankingFollowsTheFormula a (by simp [hrb]) (by simp [hrb]) hin
  obtain ⟨hhBlank, -, -, hvSync, hvFrontPorch, hvBlank, hclock⟩ := hv1 hrb
  have hrate := fieldRate_pos (interlaced := a.interlaced) hin.1
  have hvSyncPos := hvSync ▸ cvtSyncByAspect_pos a.vActive p.hActive
  have hleast := hvBlank ▸ le_max_right _ (3 + p.vSync + 6)
  have hsum := hshared.vBlank_eq
  have hhTotal := hshared.hTotal_nonneg (by rw [hhBlank]; norm_num)
  have hvTotal := hshared.vTotal_nonneg (by linarith)
  exact ⟨p, hanswers, hshared, hhBlank, exists_natCast_div_of_floor (by positivity) hclock, by linarith, hhPositive,
    hvPositive⟩

theorem exists_cvtV2_timing {a : CvtGenArgs} (hrb : a.rb = 2 ∨ a.rb = 3) (hin : cvtReducedInDomain a) :
    ∃ p, cvtAnswers a p ∧ cvtSharedFields a p ∧ p.hBlank = 80 ∧ (∃ n : ℕ, p.pixelClock = n / 1000) ∧
      1 ≤ p.vFrontPorch ∧ p.vBackPorch = 6 ∧ p.hSyncPositive = true ∧ p.vSyncPositive = false := by
  obtain ⟨p, hanswers, hshared, hhPositive, hvPositive, -, -, hv2, hclockV2, hclockV2video⟩ :=
    cvtReducedBlankingFollowsTheFormula a (by bv_omega) (by bv_omega) hin
  obtain ⟨hhBlank, -, -, hvSync, hvBackPorch, hvBlank⟩ := hv2 (by bv_omega)
  have hrate := fieldRate_pos (interlaced := a.interlaced) hin.1
  have hleast := hvBlank ▸ le_max_right _ (15 : ℚ)
  have hsum := hshared.vBlank_eq
  have hhTotal := hshared.hTotal_nonneg (by rw [hhBlank]; norm_num)
  have hvTotal := hshared.vTotal_nonneg (by linarith)
  have hclock : ∃ n : ℕ, p.pixelClock = n / 1000 := by
    obtain hrb | hrb := hrb
    · exact exists_natCast_div_of_floor (by positivity) (hclockV2 hrb)
    · exact exists_natCast_div_of_floor (by positivity) (hclockV2video hrb)
  exact ⟨p, hanswers, hshared, hhBlank, hclock, by linarith, hvBackPorch, hhPositive, hvPositive⟩

/-- Settles O43: the width is `cvtSharedFields.hActive_bounds`, the rest is read off the timing of each model, where
each floor is of what is not negative. -/
theorem cvtTimingsKeepTheInvariants : Obligations.CvtTimingsKeepTheInvariants := by
  rintro a (⟨hrb, hin⟩ | ⟨hlow, hhigh, hin⟩)
  · obtain ⟨p, hanswers, hshared, hblank, ⟨n, hclock⟩, hporch, hhPositive, hvPositive⟩ :=
      exists_cvtStandard_timing hrb hin
    obtain ⟨hcells, hle, hlt⟩ := hshared.hActive_bounds
    exact ⟨p, hanswers, hcells, hle, hlt, fun _ => hblank, fun hne => absurd hrb hne, fun _ => ⟨n, hclock⟩,
      by simp [hrb], by rw [hclock]; positivity, hporch, by simp [hrb], by simp [hhPositive, hrb],
      by simp [hvPositive, hrb]⟩
  · have hne : a.rb ≠ 0 := by bv_omega
    obtain hrb | hrb := reducedSelector_cases hlow hhigh
    · obtain ⟨p, hanswers, hshared, hblank, ⟨n, hclock⟩, hporch, hhPositive, hvPositive⟩ :=
        exists_cvtV1_timing hrb hin
      obtain ⟨hcells, hle, hlt⟩ := hshared.hActive_bounds
      exact ⟨p, hanswers, hcells, hle, hlt, fun hzero => absurd hzero hne, fun _ => .inl hblank, fun _ => ⟨n, hclock⟩,
        by simp [hrb], by rw [hclock]; positivity, hporch, by simp [hrb], iff_of_true hhPositive hne,
        iff_of_false (by simp [hvPositive]) hne⟩
    · obtain ⟨p, hanswers, hshared, hblank, ⟨n, hclock⟩, hfront, hback, hhPositive, hvPositive⟩ :=
        exists_cvtV2_timing hrb hin
      obtain ⟨hcells, hle, hlt⟩ := hshared.hActive_bounds
      exact ⟨p, hanswers, hcells, hle, hlt, fun hzero => absurd hzero hne, fun _ => .inr hblank, by bv_omega,
        fun _ => ⟨n, hclock⟩, by rw [hclock]; positivity, hback.ge, fun _ => hfront, iff_of_true hhPositive hne,
        iff_of_false (by simp [hvPositive]) hne⟩

/-! ## The reference timings of R258 and R259 -/

/-- A claim about the timing of fixed operands is settled by running the model on them. -/
theorem exists_cvtAnswers_of_run {a : CvtGenArgs} {P : TimingParams → Prop} [DecidablePred P]
    (h : (cvtGenerateIn exactArithmetic .exact a).toOption.any (P ·) = true) : ∃ p, cvtAnswers a p ∧ P p := by
  cases hrun : cvtGenerateIn exactArithmetic .exact a with
  | error e => simp [hrun, Except.toOption] at h
  | ok p => exact ⟨p, cvtAnswers_of_cvtGenerateIn hrun, by simpa [hrun, Except.toOption] using h⟩

/-- Settles O44, by running the model on the two requests. -/
theorem cvtFullHdReferenceTimings : Obligations.CvtFullHdReferenceTimings :=
  ⟨exists_cvtAnswers_of_run (by decide +kernel), exists_cvtAnswers_of_run (by decide +kernel)⟩

/-- Settles O45, by running the model on the request. -/
theorem cvtReducedReferenceTiming : Obligations.CvtReducedReferenceTiming :=
  exists_cvtAnswers_of_run (by decide +kernel)

end Sys2Proof.Machine
end

section
/-! GTF_GEN: what it answers (R280, R282), and each of its steps (R283 to R290) in closed form. -/

namespace Sys2Proof.Machine

/-! ## What the operation answers -/

theorem answerOf_gtfGen (a : GtfGenArgs) :
    answerOf unitConfig (.gtfGen (.gtfGenIn a)) = (gtfGenerateIn exactArithmetic a).map .timing := rfl

theorem gtfAnswers_of_gtfGenerateIn {a : GtfGenArgs} {p : TimingParams}
    (h : gtfGenerateIn exactArithmetic a = .ok p) : gtfAnswers a p := fun s =>
  (exec_ok_iff _ s _).2 (by rw [answerOf_gtfGen, h]; rfl)

theorem endsWith_gtfGen_of_gtfGenerateIn {a : GtfGenArgs} {e : Status}
    (h : gtfGenerateIn exactArithmetic a = .error e) : endsWith .gtfGen (.gtfGenIn a) e :=
  (endsWith_iff _ _ _).2 (by rw [answerOf_gtfGen, h]; rfl)

/-! ## The vertical steps of R283 to R286 -/

/-- R11: to round a quotient by an even number is to divide after adding half the divisor. -/
theorem roundQ_natCast_div_natCast (m : ℕ) {n : ℕ} (hpos : 0 < n) (heven : 2 ∣ n) :
    roundQ ((m : ℚ) / n) = (((m + n / 2) / n : ℕ) : ℚ) := by
  have hshift : (m : ℚ) / n + 1 / 2 = ((m + n / 2 : ℕ) : ℚ) / n := by
    push_cast [Nat.cast_div_charZero heven]
    field_simp
  rw [roundQ, hshift, floorQ_natCast_div_natCast]

theorem gtfSetup_hRnd_eq (a : GtfGenArgs) :
    (gtfSetup exactArithmetic a).hRnd = 8 * (((a.hActive + 4) / 8 : ℕ) : ℚ) := by
  have hcells : roundQ ((a.hActive : ℚ) / 8) = (((a.hActive + 4) / 8 : ℕ) : ℚ) :=
    roundQ_natCast_div_natCast a.hActive (n := 8) (by norm_num) (by norm_num)
  rw [gtfSetup_hRnd, gtfCellGran, hcells, mul_comm]

theorem gtfSetup_vRnd_eq (a : GtfGenArgs) : (gtfSetup exactArithmetic a).vRnd = gtfLines a := by
  have hfield : roundQ ((a.vActive : ℚ) / 2) = (((a.vActive + 1) / 2 : ℕ) : ℚ) :=
    roundQ_natCast_div_natCast a.vActive (n := 2) (by norm_num) (by norm_num)
  rw [gtfSetup_vRnd, hfield, gtfLines]

theorem gtfSetup_top_eq (a : GtfGenArgs) : (gtfSetup exactArithmetic a).top = gtfTop a := by
  rw [gtfSetup_top, gtfSetup_vRnd_eq, gtfTop, gtfMarginPer]
  norm_num [roundQ, floorQ]

theorem gtfActiveLines_setup (a : GtfGenArgs) :
    gtfActiveLines exactArithmetic (gtfSetup exactArithmetic a) = gtfLines a + 2 * gtfTop a := by
  simp only [gtfActiveLines, exact_add, exact_mul, exact_lit, gtfSetup_vRnd_eq, gtfSetup_top_eq]

theorem gtfActiveLines_nonneg (a : GtfGenArgs) : 0 ≤ gtfLines a + 2 * gtfTop a := by
  have hlines := gtfSetup_vRnd_eq a ▸ gtfSetup_vRnd_nonneg a
  have htop := gtfSetup_top_eq a ▸ gtfSetup_top_nonneg a
  positivity

theorem gtfPeriodEst_eq (a : GtfGenArgs) :
    gtfPeriodEst exactArithmetic (gtfSetup exactArithmetic a) =
      (1000000 / fieldRate a.interlaced a.refresh - 550) /
        (gtfLines a + 2 * gtfTop a + 1 + halfLine a.interlaced) := by
  rw [gtfPeriodEst, gtfActiveLines_setup]
  rfl

/-- R284: the denominator of the period estimate is at least 1, so its sign is that of the numerator. -/
theorem gtfPeriodEst_pos_iff {a : GtfGenArgs} (hrefresh : 0 < a.refresh) :
    0 < gtfPeriodEst exactArithmetic (gtfSetup exactArithmetic a) ↔
      550 * fieldRate a.interlaced a.refresh < 1000000 := by
  have hlines := gtfActiveLines_nonneg a
  have hhalf := halfLine_nonneg a.interlaced
  rw [gtfPeriodEst_eq, div_pos_iff_of_pos_right (by linarith), fieldTime_pos_iff (fieldRate_pos hrefresh)]

theorem gtfVSyncBp_setup (a : GtfGenArgs) :
    gtfVSyncBp exactArithmetic (gtfPeriodEst exactArithmetic (gtfSetup exactArithmetic a)) = gtfSyncLines a := by
  rw [gtfPeriodEst_eq]
  rfl

theorem gtfVTotal_setup (a : GtfGenArgs) :
    gtfVTotal exactArithmetic (gtfSetup exactArithmetic a) (gtfSyncLines a) = gtfTotalLines a := by
  rw [gtfVTotal, gtfActiveLines_setup]
  rfl

theorem gtfTotalLines_pos {a : GtfGenArgs} (h : 0 < gtfPeriodEst exactArithmetic (gtfSetup exactArithmetic a)) :
    0 < gtfTotalLines a := by
  have hsync := gtfVSyncBp_setup a ▸ gtfVSyncBp_nonneg h
  exact gtfVTotal_setup a ▸ gtfVTotal_pos a hsync

/-! ## The refined period of R287 -/

/-- R287: the estimate cancels, so the refined period depends on the field rate and the lines alone. -/
theorem gtfPeriod_eq {periodEst : ℚ} (h : 0 < periodEst) (rate vTotal : ℚ) :
    gtfPeriod exactArithmetic rate periodEst vTotal = 1000000 / (rate * vTotal) := by
  have hrate : rate / (1000000 / (periodEst * vTotal)) = periodEst * (rate * vTotal / 1000000) := by
    rw [div_div_eq_mul_div]
    ring
  simp only [gtfPeriod, exact_div, exact_mul, exact_lit, hrate]
  rw [div_mul_cancel_left₀ h.ne', inv_div]

theorem gtfPeriod_setup {a : GtfGenArgs} (h : 0 < gtfPeriodEst exactArithmetic (gtfSetup exactArithmetic a)) :
    gtfPeriod exactArithmetic (gtfSetup exactArithmetic a).vFieldRate
      (gtfPeriodEst exactArithmetic (gtfSetup exactArithmetic a)) (gtfTotalLines a) = gtfExactPeriod a :=
  gtfPeriod_eq h _ _

/-- R287: the refined period gives back exactly the requested field rate. -/
theorem fieldRate_of_gtfExactPeriod {a : GtfGenArgs} (htotal : 0 < gtfTotalLines a) :
    1000000 / (gtfExactPeriod a * gtfTotalLines a) = fieldRate a.interlaced a.refresh := by
  rw [gtfExactPeriod, div_mul_eq_mul_div, mul_div_mul_right _ _ htotal.ne', div_div_cancel₀ (by norm_num)]

/-! ## The horizontal steps of R288 to R291 -/

theorem gtfLeft_eq (margins : Bool) (hRnd : ℚ) :
    gtfLeft exactArithmetic margins hRnd =
      if margins then 8 * ((⌊hRnd * (9 / 5) / 800 + 1 / 2⌋ : ℤ) : ℚ) else 0 := by
  have hcells : hRnd * (9 / 5) / 100 / 8 = hRnd * (9 / 5) / 800 := by ring
  simp only [gtfLeft, exact_mul, exact_round, exact_div, exact_lit, gtfMarginPer, gtfCellGran, roundQ, floorQ, hcells,
    mul_comm (8 : ℚ)]

theorem gtfIdealDuty_exactPeriod (a : GtfGenArgs) :
    gtfIdealDuty exactArithmetic a (gtfExactPeriod a) = gtfExactDuty a := rfl

theorem gtfHBlank_eq (tap duty : ℚ) :
    gtfHBlank exactArithmetic tap duty = 16 * ((⌊tap * duty / (100 - duty) / 16 + 1 / 2⌋ : ℤ) : ℚ) := by
  simp only [gtfHBlank, exact_mul, exact_round, exact_div, exact_sub, exact_lit, gtfCellGran, roundQ, floorQ]
  norm_num [mul_comm]

theorem gtfHSync_eq (hTotal : ℚ) : gtfHSync exactArithmetic hTotal = 8 * ((⌊hTotal / 100 + 1 / 2⌋ : ℤ) : ℚ) := by
  have hcells : 8 / 100 * hTotal / 8 = hTotal / 100 := by ring
  simp only [gtfHSync, exact_mul, exact_round, exact_div, exact_lit, gtfCellGran, gtfHSyncPer, roundQ, floorQ, hcells]
  ring

/-- The timing of R283 to R291 at the refined period; `gtfGenerateIn_eq` says when the model gives it. -/
def gtfTiming (a : GtfGenArgs) : TimingParams :=
  let hRnd := (gtfSetup exactArithmetic a).hRnd
  let left := gtfLeft exactArithmetic a.margins hRnd
  let hBlank := gtfHBlank exactArithmetic (hRnd + 2 * left) (gtfExactDuty a)
  let hTotal := hRnd + 2 * left + hBlank
  let hSync := gtfHSync exactArithmetic hTotal
  { hActive := hRnd
    hBorder := left
    hFrontPorch := hBlank / 2 - hSync
    hSync := hSync
    hBackPorch := hBlank / 2
    hBlank := hBlank
    hTotal := hTotal
    vActive := gtfLines a
    vBorder := gtfTop a
    vFrontPorch := 1
    vSync := 3
    vBackPorch := gtfSyncLines a - 3
    vBlank := gtfSyncLines a + 1
    vTotal := gtfTotalLines a
    pixelClock := hTotal / gtfExactPeriod a
    hRate := 1000 / gtfExactPeriod a
    vFieldRate := fieldRate a.interlaced a.refresh
    vRate := a.refresh
    interlaced := a.interlaced
    hSyncPositive := false
    vSyncPositive := true }

/-- R291: the frame rate of the answer is the one requested. -/
theorem refresh_of_fieldRate (interlaced : Bool) (refresh : ℚ) :
    (if interlaced then fieldRate interlaced refresh / 2 else fieldRate interlaced refresh) = refresh := by
  cases interlaced
  · rfl
  · exact mul_div_cancel_left₀ refresh two_ne_zero

theorem gtfHorizontal_setup {a : GtfGenArgs} (htotal : 0 < gtfTotalLines a) :
    gtfHorizontal exactArithmetic a (gtfSetup exactArithmetic a) (gtfSyncLines a) (gtfTotalLines a)
        (gtfExactPeriod a) =
      if gtfExactDuty a = 100 then .error .domainError else .ok (gtfTiming a) := by
  simp only [gtfHorizontal, exact_eq, exact_lit, exact_out, exact_add, exact_sub, exact_mul, exact_div,
    decide_eq_true_eq, raise_eq, gtfIdealDuty_exactPeriod, fieldRate_of_gtfExactPeriod htotal, refresh_of_fieldRate,
    gtfSetup_vRnd_eq, gtfSetup_top_eq]
  rfl

/-- R280, R282, R284, R289: GTF_GEN gives its timing exactly in its domain. -/
theorem gtfGenerateIn_eq (a : GtfGenArgs) [Decidable (gtfInDomain a)] :
    gtfGenerateIn exactArithmetic a = if gtfInDomain a then .ok (gtfTiming a) else .error .domainError := by
  simp only [gtfGenerateIn, exact_le, exact_lit, decide_eq_true_eq, raise_eq, gtfVSyncBp_setup, gtfVTotal_setup]
  split_ifs with hrefresh hin hperiod hin hin
  · exact absurd hin.1 hrefresh.not_gt
  · rfl
  · exact absurd ((gtfPeriodEst_pos_iff hin.1).2 hin.2.1) hperiod.not_gt
  · rfl
  all_goals
    have hest := not_le.1 hperiod
    rw [gtfPeriod_setup hest, gtfHorizontal_setup (gtfTotalLines_pos hest)]
  · exact if_neg hin.2.2
  · have hrate := (gtfPeriodEst_pos_iff (not_le.1 hrefresh)).1 hest
    exact if_pos (not_not.1 fun hduty => hin ⟨not_le.1 hrefresh, hrate, hduty⟩)

end Sys2Proof.Machine
end

section
/-! The statements about GTF_GEN: its domain, the closed form of every field, and what follows from it. -/

namespace Sys2Proof.Machine

/-- R282 to R291: in the domain, GTF_GEN answers `gtfTiming`. -/
theorem gtfAnswers_gtfTiming {a : GtfGenArgs} (h : gtfInDomain a) : gtfAnswers a (gtfTiming a) := by
  classical exact gtfAnswers_of_gtfGenerateIn ((gtfGenerateIn_eq a).trans (if_pos h))

/-- Settles O46: outside the domain `gtfGenerateIn_eq` leaves the error alone. -/
theorem gtfGenRefusesOutsideItsDomain : Obligations.GtfGenRefusesOutsideItsDomain := by
  classical exact ⟨fun _ => rfl, refusesOtherKinds_of_operandKind (fun _ => rfl) fun _ => rfl, fun a hout =>
    endsWith_gtfGen_of_gtfGenerateIn ((gtfGenerateIn_eq a).trans (if_neg hout))⟩

/-- Settles O47: the answer is `gtfTiming`; each rounded width has its closed form. -/
theorem gtfFollowsTheFormula : Obligations.GtfFollowsTheFormula := fun a hin =>
  ⟨gtfTiming a, gtfAnswers_gtfTiming hin, gtfSetup_hRnd_eq a, gtfLeft_eq _ _, gtfHBlank_eq _ _, rfl, gtfHSync_eq _,
    rfl, rfl, rfl, rfl, rfl, rfl, rfl, rfl, rfl, rfl, rfl, rfl, rfl, rfl, rfl, rfl⟩

/-- R283: a number of pixels rounded to a whole number of cells is at most half a cell away. -/
theorem abs_cells_sub_le (n : ℕ) : |8 * (((n + 4) / 8 : ℕ) : ℚ) - n| ≤ 4 := by
  rw [abs_sub_le_iff, sub_le_iff_le_add, sub_le_iff_le_add]
  constructor
  all_goals
    norm_cast
    omega

/-- Settles O48: the width and the blank are whole numbers of cells, the clock follows from the rate; the other fields
are read off `gtfTiming`. -/
theorem gtfTimingsKeepTheInvariants : Obligations.GtfTimingsKeepTheInvariants := by
  intro a hin
  have hwidth : (gtfTiming a).hActive = 8 * (((a.hActive + 4) / 8 : ℕ) : ℚ) := gtfSetup_hRnd_eq a
  have hclock : (gtfTiming a).pixelClock = (gtfTiming a).hTotal * (gtfTiming a).hRate / 1000 := by
    simp only [gtfTiming]
    ring
  exact ⟨gtfTiming a, gtfAnswers_gtfTiming hin, ⟨_, hwidth⟩, hwidth ▸ abs_cells_sub_le a.hActive,
    gtfHBlank_cells _ _, rfl, rfl, rfl, hclock, rfl, rfl⟩

/-- Settles O49: the request is in the domain, and the fields of `gtfTiming` are evaluated at it. -/
theorem gtfVgaReferenceTiming : Obligations.GtfVgaReferenceTiming :=
  ⟨_, gtfAnswers_gtfTiming (by unfold gtfInDomain; decide +kernel), by decide +kernel⟩

end Sys2Proof.Machine
end

section
/-! Responses and exceptions (R314, R315, R326): the frame of every instruction, and the idle step. -/

namespace Sys2Proof.Machine

/-- Settles O6: the response is that of the instruction's answer, which is a function of the instruction alone. -/
theorem instructionsChangeOnlyTheirResponse : Obligations.InstructionsChangeOnlyTheirResponse := by
  intro i
  refine ⟨responseOf (answerOf unitConfig i), fun s => ?_⟩
  calc exec i s = respond (answerOf unitConfig i) s := exec_eq_respond i s
    _ = .next { pending := s.pending, responses := s.responses ++ [responseOf (answerOf unitConfig i)] } :=
      respond_eq _ s

/-- Settles O7: it is the idle case of a step. -/
theorem idleStepChangesNothing : Obligations.IdleStepChangesNothing := step_idle

end Sys2Proof.Machine
end

section
/-! Reset and the host's moves (R326, R340, log entry 4): what an idle unit does in a run, and in the step after a request. -/

namespace Sys2Proof.Machine

/-- R326: a unit with no request issued stays as it is, however long it runs. -/
theorem core_run_idle {s : State} (hidle : s.pending = []) (n : Nat) : core.run n s = .next s := by
  induction n with
  | zero => rfl
  | succ n ih => rw [core_run_succ n (step_idle s hidle), ih]

/-- An idle unit answers the request it is issued in the very next step. -/
theorem step_hostIssue_of_idle {s : State} (hidle : s.pending = []) (r : Request) :
    step (hostIssue r s) = .next { pending := [], responses := s.responses ++ [responseTo r] } := by
  have hfirst : (hostIssue r s).pending = [r] := by rw [hostIssue_pending, hidle, List.nil_append]
  rw [step_answers_oldest hfirst, hostIssue_responses]

/-- Settles O11: a reset unit is idle, and it holds the responses given before. -/
theorem resetAbandonsRequestsAndLeavesTheUnitReady : Obligations.ResetAbandonsRequestsAndLeavesTheUnitReady := by
  intro s
  have hidle : (hostReset s).pending = [] := hostReset_pending s
  refine ⟨core_run_idle hidle, hostReset_responses s, fun r => ?_⟩
  rw [step_hostIssue_of_idle hidle, hostReset_responses]

end Sys2Proof.Machine
end
